-- ==== Sys2Proof/Word.lean ====
section
/-! DEFINITION. The two word types of the hardware (`00_scope.md` R9: `u8` and `u16`). -/

namespace Sys2Proof

/-- `u8`: register contents, memory bytes, port numbers (R9, R30, R60). -/
abbrev Byte := BitVec 8

/-- `u16`: addresses, PC and SP, register pairs (R9, R38, R39). -/
abbrev Word := BitVec 16

end Sys2Proof
end

