-- ==== Sys2Proof/Syntax.lean ====
section
/-! DEFINITION. The abstract syntax: registers, register pairs, conditions, arithmetic operations, addressing modes,
the kinds and selectors of a decoded descriptor, and the instructions, one constructor per mnemonic of `spec/opcode_table.json`. -/

namespace Sys2Proof

/-- The seven 8-bit registers (R30). -/
inductive Reg where
  | b | c | d | e | h | l | a
  deriving DecidableEq, Repr

/-- An 8-bit operand: a register, or M, the memory byte at the address in H:L (R32, R33). -/
inductive Operand where
  | reg (r : Reg)
  | m
  deriving DecidableEq, Repr

/-- A register pair in a stack-pointer context: LXI, INX, DCX, DAD, and LDAX and STAX for `bc` and `de` (R35, R37). -/
inductive Pair where
  | bc | de | hl | sp
  deriving DecidableEq, Repr

/-- A register pair in a PUSH or POP context, where the fourth code is the PSW and never SP (R36, R301). -/
inductive StackPair where
  | bc | de | hl | psw
  deriving DecidableEq, Repr

/-- The eight conditions (R99). -/
inductive Cond where
  | nz | z | nc | c | po | pe | p | m
  deriving DecidableEq, Repr

/-- The eight arithmetic and logical operations (R96). -/
inductive AluOp where
  | add | adc | sub | sbb | ana | xra | ora | cmp
  deriving DecidableEq, Repr

/-- The addressing-mode tags (R106). `illegal` is the mode that the table gives its ILLEGAL rows; no descriptor has it. -/
inductive Mode where
  | register | registerPair | stack | imm8 | imm16 | implied | illegal
  deriving DecidableEq, Repr

/-- The `kind` of a decoded instruction: "one variant per architectural mnemonic" (R106), the mnemonics being those of
R108. The bytes 01dddsss but 0x76 share the kind `mov`; `inp` is IN. -/
inductive Kind where
  | nop | lxi | stax | inx | inr | dcr | mvi | rlc | dad | ldax | dcx | rrc
  | ral | rar | shld | daa | lhld | cma | sta | stc | lda | cmc | mov | hlt
  | add | adc | sub | sbb | ana | xra | ora | cmp | rnz | pop | jnz | jmp
  | cnz | push | adi | rst | rz | ret | jz | cz | call | aci | rnc | jnc
  | out | cnc | sui | rc | jc | inp | cc | sbi | rpo | jpo | xthl | cpo
  | ani | rpe | pchl | jpe | xchg | cpe | xri | rp | jp | di | cp | ori
  | rm | sphl | jm | ei | cm | cpi
  deriving DecidableEq, Repr

/-- The fields of an opcode byte that select an operand, a condition, an operation or a restart (R92). -/
inductive OpcodeField where
  | ddd | sss | rp | ccc | ooo | nnn
  deriving DecidableEq, Repr

/-- An operand selector of a decoded instruction: a field with its code (R48, R106). -/
inductive Selector where
  | ddd (code : BitVec 3)
  | sss (code : BitVec 3)
  | rp (code : BitVec 2)
  | ccc (code : BitVec 3)
  | ooo (code : BitVec 3)
  | nnn (code : BitVec 3)
  deriving DecidableEq, Repr

/-- The instructions (R103). The comment of a constructor gives its opcode byte, its assembler form (R108) and its
rule. `d8` and `p8` are the byte `b1`, `d16` and `a16` are `b2:b1` (R105). `illegal op` is the decoder's `Illegal(b0)`
(R106), the twelve ILLEGAL rows of the table. -/
inductive Instr where
  /-- ILLEGAL: 0x08 0x10 0x18 0x20 0x28 0x30 0x38 0xCB 0xD9 0xDD 0xED 0xFD (R101) -/
  | illegal (op : Byte)
  /-- 0x00 NOP (R390) -/
  | nop
  /-- 0x01 LXI B,d16 (R325) -/
  | lxiB (d16 : Word)
  /-- 0x02 STAX B (R331) -/
  | staxB
  /-- 0x03 INX B (R357) -/
  | inxB
  /-- 0x04 INR B (R353) -/
  | inrB
  /-- 0x05 DCR B (R355) -/
  | dcrB
  /-- 0x06 MVI B,d8 (R323) -/
  | mviB (d8 : Byte)
  /-- 0x07 RLC (R371) -/
  | rlc
  /-- 0x09 DAD B (R359) -/
  | dadB
  /-- 0x0A LDAX B (R330) -/
  | ldaxB
  /-- 0x0B DCX B (R358) -/
  | dcxB
  /-- 0x0C INR C (R353) -/
  | inrC
  /-- 0x0D DCR C (R355) -/
  | dcrC
  /-- 0x0E MVI C,d8 (R323) -/
  | mviC (d8 : Byte)
  /-- 0x0F RRC (R372) -/
  | rrc
  /-- 0x11 LXI D,d16 (R325) -/
  | lxiD (d16 : Word)
  /-- 0x12 STAX D (R331) -/
  | staxD
  /-- 0x13 INX D (R357) -/
  | inxD
  /-- 0x14 INR D (R353) -/
  | inrD
  /-- 0x15 DCR D (R355) -/
  | dcrD
  /-- 0x16 MVI D,d8 (R323) -/
  | mviD (d8 : Byte)
  /-- 0x17 RAL (R373) -/
  | ral
  /-- 0x19 DAD D (R359) -/
  | dadD
  /-- 0x1A LDAX D (R330) -/
  | ldaxD
  /-- 0x1B DCX D (R358) -/
  | dcxD
  /-- 0x1C INR E (R353) -/
  | inrE
  /-- 0x1D DCR E (R355) -/
  | dcrE
  /-- 0x1E MVI E,d8 (R323) -/
  | mviE (d8 : Byte)
  /-- 0x1F RAR (R374) -/
  | rar
  /-- 0x21 LXI H,d16 (R325) -/
  | lxiH (d16 : Word)
  /-- 0x22 SHLD a16 (R329) -/
  | shld (a16 : Word)
  /-- 0x23 INX H (R357) -/
  | inxH
  /-- 0x24 INR H (R353) -/
  | inrH
  /-- 0x25 DCR H (R355) -/
  | dcrH
  /-- 0x26 MVI H,d8 (R323) -/
  | mviH (d8 : Byte)
  /-- 0x27 DAA (R375) -/
  | daa
  /-- 0x29 DAD H (R359) -/
  | dadH
  /-- 0x2A LHLD a16 (R328) -/
  | lhld (a16 : Word)
  /-- 0x2B DCX H (R358) -/
  | dcxH
  /-- 0x2C INR L (R353) -/
  | inrL
  /-- 0x2D DCR L (R355) -/
  | dcrL
  /-- 0x2E MVI L,d8 (R323) -/
  | mviL (d8 : Byte)
  /-- 0x2F CMA (R377) -/
  | cma
  /-- 0x31 LXI SP,d16 (R325) -/
  | lxiSP (d16 : Word)
  /-- 0x32 STA a16 (R327) -/
  | sta (a16 : Word)
  /-- 0x33 INX SP (R357) -/
  | inxSP
  /-- 0x34 INR M (R354) -/
  | inrM
  /-- 0x35 DCR M (R356) -/
  | dcrM
  /-- 0x36 MVI M,d8 (R324) -/
  | mviM (d8 : Byte)
  /-- 0x37 STC (R378) -/
  | stc
  /-- 0x39 DAD SP (R359) -/
  | dadSP
  /-- 0x3A LDA a16 (R326) -/
  | lda (a16 : Word)
  /-- 0x3B DCX SP (R358) -/
  | dcxSP
  /-- 0x3C INR A (R353) -/
  | inrA
  /-- 0x3D DCR A (R355) -/
  | dcrA
  /-- 0x3E MVI A,d8 (R323) -/
  | mviA (d8 : Byte)
  /-- 0x3F CMC (R379) -/
  | cmc
  /-- 0x40 MOV B,B (R320) -/
  | movBB
  /-- 0x41 MOV B,C (R320) -/
  | movBC
  /-- 0x42 MOV B,D (R320) -/
  | movBD
  /-- 0x43 MOV B,E (R320) -/
  | movBE
  /-- 0x44 MOV B,H (R320) -/
  | movBH
  /-- 0x45 MOV B,L (R320) -/
  | movBL
  /-- 0x46 MOV B,M (R321) -/
  | movBM
  /-- 0x47 MOV B,A (R320) -/
  | movBA
  /-- 0x48 MOV C,B (R320) -/
  | movCB
  /-- 0x49 MOV C,C (R320) -/
  | movCC
  /-- 0x4A MOV C,D (R320) -/
  | movCD
  /-- 0x4B MOV C,E (R320) -/
  | movCE
  /-- 0x4C MOV C,H (R320) -/
  | movCH
  /-- 0x4D MOV C,L (R320) -/
  | movCL
  /-- 0x4E MOV C,M (R321) -/
  | movCM
  /-- 0x4F MOV C,A (R320) -/
  | movCA
  /-- 0x50 MOV D,B (R320) -/
  | movDB
  /-- 0x51 MOV D,C (R320) -/
  | movDC
  /-- 0x52 MOV D,D (R320) -/
  | movDD
  /-- 0x53 MOV D,E (R320) -/
  | movDE
  /-- 0x54 MOV D,H (R320) -/
  | movDH
  /-- 0x55 MOV D,L (R320) -/
  | movDL
  /-- 0x56 MOV D,M (R321) -/
  | movDM
  /-- 0x57 MOV D,A (R320) -/
  | movDA
  /-- 0x58 MOV E,B (R320) -/
  | movEB
  /-- 0x59 MOV E,C (R320) -/
  | movEC
  /-- 0x5A MOV E,D (R320) -/
  | movED
  /-- 0x5B MOV E,E (R320) -/
  | movEE
  /-- 0x5C MOV E,H (R320) -/
  | movEH
  /-- 0x5D MOV E,L (R320) -/
  | movEL
  /-- 0x5E MOV E,M (R321) -/
  | movEM
  /-- 0x5F MOV E,A (R320) -/
  | movEA
  /-- 0x60 MOV H,B (R320) -/
  | movHB
  /-- 0x61 MOV H,C (R320) -/
  | movHC
  /-- 0x62 MOV H,D (R320) -/
  | movHD
  /-- 0x63 MOV H,E (R320) -/
  | movHE
  /-- 0x64 MOV H,H (R320) -/
  | movHH
  /-- 0x65 MOV H,L (R320) -/
  | movHL
  /-- 0x66 MOV H,M (R321) -/
  | movHM
  /-- 0x67 MOV H,A (R320) -/
  | movHA
  /-- 0x68 MOV L,B (R320) -/
  | movLB
  /-- 0x69 MOV L,C (R320) -/
  | movLC
  /-- 0x6A MOV L,D (R320) -/
  | movLD
  /-- 0x6B MOV L,E (R320) -/
  | movLE
  /-- 0x6C MOV L,H (R320) -/
  | movLH
  /-- 0x6D MOV L,L (R320) -/
  | movLL
  /-- 0x6E MOV L,M (R321) -/
  | movLM
  /-- 0x6F MOV L,A (R320) -/
  | movLA
  /-- 0x70 MOV M,B (R322) -/
  | movMB
  /-- 0x71 MOV M,C (R322) -/
  | movMC
  /-- 0x72 MOV M,D (R322) -/
  | movMD
  /-- 0x73 MOV M,E (R322) -/
  | movME
  /-- 0x74 MOV M,H (R322) -/
  | movMH
  /-- 0x75 MOV M,L (R322) -/
  | movML
  /-- 0x76 HLT (R391) -/
  | hlt
  /-- 0x77 MOV M,A (R322) -/
  | movMA
  /-- 0x78 MOV A,B (R320) -/
  | movAB
  /-- 0x79 MOV A,C (R320) -/
  | movAC
  /-- 0x7A MOV A,D (R320) -/
  | movAD
  /-- 0x7B MOV A,E (R320) -/
  | movAE
  /-- 0x7C MOV A,H (R320) -/
  | movAH
  /-- 0x7D MOV A,L (R320) -/
  | movAL
  /-- 0x7E MOV A,M (R321) -/
  | movAM
  /-- 0x7F MOV A,A (R320) -/
  | movAA
  /-- 0x80 ADD B (R205) -/
  | addB
  /-- 0x81 ADD C (R205) -/
  | addC
  /-- 0x82 ADD D (R205) -/
  | addD
  /-- 0x83 ADD E (R205) -/
  | addE
  /-- 0x84 ADD H (R205) -/
  | addH
  /-- 0x85 ADD L (R205) -/
  | addL
  /-- 0x86 ADD M (R206) -/
  | addM
  /-- 0x87 ADD A (R205) -/
  | addA
  /-- 0x88 ADC B (R208) -/
  | adcB
  /-- 0x89 ADC C (R208) -/
  | adcC
  /-- 0x8A ADC D (R208) -/
  | adcD
  /-- 0x8B ADC E (R208) -/
  | adcE
  /-- 0x8C ADC H (R208) -/
  | adcH
  /-- 0x8D ADC L (R208) -/
  | adcL
  /-- 0x8E ADC M (R209) -/
  | adcM
  /-- 0x8F ADC A (R208) -/
  | adcA
  /-- 0x90 SUB B (R211) -/
  | subB
  /-- 0x91 SUB C (R211) -/
  | subC
  /-- 0x92 SUB D (R211) -/
  | subD
  /-- 0x93 SUB E (R211) -/
  | subE
  /-- 0x94 SUB H (R211) -/
  | subH
  /-- 0x95 SUB L (R211) -/
  | subL
  /-- 0x96 SUB M (R212) -/
  | subM
  /-- 0x97 SUB A (R211) -/
  | subA
  /-- 0x98 SBB B (R214) -/
  | sbbB
  /-- 0x99 SBB C (R214) -/
  | sbbC
  /-- 0x9A SBB D (R214) -/
  | sbbD
  /-- 0x9B SBB E (R214) -/
  | sbbE
  /-- 0x9C SBB H (R214) -/
  | sbbH
  /-- 0x9D SBB L (R214) -/
  | sbbL
  /-- 0x9E SBB M (R215) -/
  | sbbM
  /-- 0x9F SBB A (R214) -/
  | sbbA
  /-- 0xA0 ANA B (R217) -/
  | anaB
  /-- 0xA1 ANA C (R217) -/
  | anaC
  /-- 0xA2 ANA D (R217) -/
  | anaD
  /-- 0xA3 ANA E (R217) -/
  | anaE
  /-- 0xA4 ANA H (R217) -/
  | anaH
  /-- 0xA5 ANA L (R217) -/
  | anaL
  /-- 0xA6 ANA M (R218) -/
  | anaM
  /-- 0xA7 ANA A (R217) -/
  | anaA
  /-- 0xA8 XRA B (R220) -/
  | xraB
  /-- 0xA9 XRA C (R220) -/
  | xraC
  /-- 0xAA XRA D (R220) -/
  | xraD
  /-- 0xAB XRA E (R220) -/
  | xraE
  /-- 0xAC XRA H (R220) -/
  | xraH
  /-- 0xAD XRA L (R220) -/
  | xraL
  /-- 0xAE XRA M (R221) -/
  | xraM
  /-- 0xAF XRA A (R220) -/
  | xraA
  /-- 0xB0 ORA B (R223) -/
  | oraB
  /-- 0xB1 ORA C (R223) -/
  | oraC
  /-- 0xB2 ORA D (R223) -/
  | oraD
  /-- 0xB3 ORA E (R223) -/
  | oraE
  /-- 0xB4 ORA H (R223) -/
  | oraH
  /-- 0xB5 ORA L (R223) -/
  | oraL
  /-- 0xB6 ORA M (R224) -/
  | oraM
  /-- 0xB7 ORA A (R223) -/
  | oraA
  /-- 0xB8 CMP B (R226) -/
  | cmpB
  /-- 0xB9 CMP C (R226) -/
  | cmpC
  /-- 0xBA CMP D (R226) -/
  | cmpD
  /-- 0xBB CMP E (R226) -/
  | cmpE
  /-- 0xBC CMP H (R226) -/
  | cmpH
  /-- 0xBD CMP L (R226) -/
  | cmpL
  /-- 0xBE CMP M (R227) -/
  | cmpM
  /-- 0xBF CMP A (R226) -/
  | cmpA
  /-- 0xC0 RNZ (R275) -/
  | rnz
  /-- 0xC1 POP B (R304) -/
  | popB
  /-- 0xC2 JNZ a16 (R255) -/
  | jnz (a16 : Word)
  /-- 0xC3 JMP a16 (R253) -/
  | jmp (a16 : Word)
  /-- 0xC4 CNZ a16 (R265) -/
  | cnz (a16 : Word)
  /-- 0xC5 PUSH B (R302) -/
  | pushB
  /-- 0xC6 ADI d8 (R207) -/
  | adi (d8 : Byte)
  /-- 0xC7 RST 0 (R283) -/
  | rst0
  /-- 0xC8 RZ (R276) -/
  | rz
  /-- 0xC9 RET (R273) -/
  | ret
  /-- 0xCA JZ a16 (R256) -/
  | jz (a16 : Word)
  /-- 0xCC CZ a16 (R266) -/
  | cz (a16 : Word)
  /-- 0xCD CALL a16 (R263) -/
  | call (a16 : Word)
  /-- 0xCE ACI d8 (R210) -/
  | aci (d8 : Byte)
  /-- 0xCF RST 1 (R283) -/
  | rst1
  /-- 0xD0 RNC (R277) -/
  | rnc
  /-- 0xD1 POP D (R304) -/
  | popD
  /-- 0xD2 JNC a16 (R257) -/
  | jnc (a16 : Word)
  /-- 0xD3 OUT p8 (R394) -/
  | outP8 (p8 : Byte)
  /-- 0xD4 CNC a16 (R267) -/
  | cnc (a16 : Word)
  /-- 0xD5 PUSH D (R302) -/
  | pushD
  /-- 0xD6 SUI d8 (R213) -/
  | sui (d8 : Byte)
  /-- 0xD7 RST 2 (R283) -/
  | rst2
  /-- 0xD8 RC (R278) -/
  | rc
  /-- 0xDA JC a16 (R258) -/
  | jc (a16 : Word)
  /-- 0xDB IN p8 (R395) -/
  | inP8 (p8 : Byte)
  /-- 0xDC CC a16 (R268) -/
  | cc (a16 : Word)
  /-- 0xDE SBI d8 (R216) -/
  | sbi (d8 : Byte)
  /-- 0xDF RST 3 (R283) -/
  | rst3
  /-- 0xE0 RPO (R279) -/
  | rpo
  /-- 0xE1 POP H (R304) -/
  | popH
  /-- 0xE2 JPO a16 (R259) -/
  | jpo (a16 : Word)
  /-- 0xE3 XTHL (R306) -/
  | xthl
  /-- 0xE4 CPO a16 (R269) -/
  | cpo (a16 : Word)
  /-- 0xE5 PUSH H (R302) -/
  | pushH
  /-- 0xE6 ANI d8 (R219) -/
  | ani (d8 : Byte)
  /-- 0xE7 RST 4 (R283) -/
  | rst4
  /-- 0xE8 RPE (R280) -/
  | rpe
  /-- 0xE9 PCHL (R284) -/
  | pchl
  /-- 0xEA JPE a16 (R260) -/
  | jpe (a16 : Word)
  /-- 0xEB XCHG (R332) -/
  | xchg
  /-- 0xEC CPE a16 (R270) -/
  | cpe (a16 : Word)
  /-- 0xEE XRI d8 (R222) -/
  | xri (d8 : Byte)
  /-- 0xEF RST 5 (R283) -/
  | rst5
  /-- 0xF0 RP (R281) -/
  | rp
  /-- 0xF1 POP PSW (R305) -/
  | popPSW
  /-- 0xF2 JP a16 (R261) -/
  | jp (a16 : Word)
  /-- 0xF3 DI (R393) -/
  | di
  /-- 0xF4 CP a16 (R271) -/
  | cp (a16 : Word)
  /-- 0xF5 PUSH PSW (R303) -/
  | pushPSW
  /-- 0xF6 ORI d8 (R225) -/
  | ori (d8 : Byte)
  /-- 0xF7 RST 6 (R283) -/
  | rst6
  /-- 0xF8 RM (R282) -/
  | rm
  /-- 0xF9 SPHL (R307) -/
  | sphl
  /-- 0xFA JM a16 (R262) -/
  | jm (a16 : Word)
  /-- 0xFB EI (R392) -/
  | ei
  /-- 0xFC CM a16 (R272) -/
  | cm (a16 : Word)
  /-- 0xFE CPI d8 (R228) -/
  | cpi (d8 : Byte)
  /-- 0xFF RST 7 (R283) -/
  | rst7
  deriving DecidableEq, Repr

end Sys2Proof
end

