-- ==== Sys2Proof/WellFormed.lean ====
section
/-! DEFINITION. Which terms of `Instr` stand for instructions of the table. Every operand of a legal instruction may
hold any value of its width (R102, R105), so the one check is that `illegal op` names an illegal byte. -/

namespace Sys2Proof

/-- The twelve illegal byte values (R101). -/
def illegalBytes : List Byte :=
  [0x08, 0x10, 0x18, 0x20, 0x28, 0x30, 0x38, 0xCB, 0xD9, 0xDD, 0xED, 0xFD]

/-- A well-formed instruction: an `illegal` term holds one of the twelve illegal bytes. -/
def Instr.wf : Instr → Bool
  | .illegal op => illegalBytes.contains op
  | _ => true

end Sys2Proof
end

