-- ==== Sys2Proof/Decode.lean ====
section
/-! DEFINITION. The decoder (`30_encoding.md`), written from the opcode map R103, and after it the encoder, written
from the field patterns R92 to R100 and the code tables R32, R35, R36, R96, R98, R99. -/

namespace Sys2Proof

/-- `hi:lo` (R9). -/
def joinBytes (hi lo : Byte) : Word := hi ++ lo

/-- `v[15:8]` (R8). -/
def highByte (v : Word) : Byte := v.extractLsb' 8 8

/-- `v[7:0]` (R8). -/
def lowByte (v : Word) : Byte := v.extractLsb' 0 8

/-- The opcode map of R103: row = high nibble of the opcode, column = low nibble. `b1` and `b2` are the two bytes
after the opcode; `d8 = p8 = b1` and `d16 = a16 = b2:b1` (R105). -/
def opcodeMap (b1 b2 : Byte) : List (List Instr) :=
  let w := joinBytes b2 b1
  [ -- rows 0x to Fx
    [.nop, .lxiB w, .staxB, .inxB, .inrB, .dcrB, .mviB b1, .rlc,
      .illegal 0x08, .dadB, .ldaxB, .dcxB, .inrC, .dcrC, .mviC b1, .rrc],
    [.illegal 0x10, .lxiD w, .staxD, .inxD, .inrD, .dcrD, .mviD b1, .ral,
      .illegal 0x18, .dadD, .ldaxD, .dcxD, .inrE, .dcrE, .mviE b1, .rar],
    [.illegal 0x20, .lxiH w, .shld w, .inxH, .inrH, .dcrH, .mviH b1, .daa,
      .illegal 0x28, .dadH, .lhld w, .dcxH, .inrL, .dcrL, .mviL b1, .cma],
    [.illegal 0x30, .lxiSP w, .sta w, .inxSP, .inrM, .dcrM, .mviM b1, .stc,
      .illegal 0x38, .dadSP, .lda w, .dcxSP, .inrA, .dcrA, .mviA b1, .cmc],
    [.movBB, .movBC, .movBD, .movBE, .movBH, .movBL, .movBM, .movBA,
      .movCB, .movCC, .movCD, .movCE, .movCH, .movCL, .movCM, .movCA],
    [.movDB, .movDC, .movDD, .movDE, .movDH, .movDL, .movDM, .movDA,
      .movEB, .movEC, .movED, .movEE, .movEH, .movEL, .movEM, .movEA],
    [.movHB, .movHC, .movHD, .movHE, .movHH, .movHL, .movHM, .movHA,
      .movLB, .movLC, .movLD, .movLE, .movLH, .movLL, .movLM, .movLA],
    [.movMB, .movMC, .movMD, .movME, .movMH, .movML, .hlt, .movMA,
      .movAB, .movAC, .movAD, .movAE, .movAH, .movAL, .movAM, .movAA],
    [.addB, .addC, .addD, .addE, .addH, .addL, .addM, .addA,
      .adcB, .adcC, .adcD, .adcE, .adcH, .adcL, .adcM, .adcA],
    [.subB, .subC, .subD, .subE, .subH, .subL, .subM, .subA,
      .sbbB, .sbbC, .sbbD, .sbbE, .sbbH, .sbbL, .sbbM, .sbbA],
    [.anaB, .anaC, .anaD, .anaE, .anaH, .anaL, .anaM, .anaA,
      .xraB, .xraC, .xraD, .xraE, .xraH, .xraL, .xraM, .xraA],
    [.oraB, .oraC, .oraD, .oraE, .oraH, .oraL, .oraM, .oraA,
      .cmpB, .cmpC, .cmpD, .cmpE, .cmpH, .cmpL, .cmpM, .cmpA],
    [.rnz, .popB, .jnz w, .jmp w, .cnz w, .pushB, .adi b1, .rst0,
      .rz, .ret, .jz w, .illegal 0xCB, .cz w, .call w, .aci b1, .rst1],
    [.rnc, .popD, .jnc w, .outP8 b1, .cnc w, .pushD, .sui b1, .rst2,
      .rc, .illegal 0xD9, .jc w, .inP8 b1, .cc w, .illegal 0xDD, .sbi b1, .rst3],
    [.rpo, .popH, .jpo w, .xthl, .cpo w, .pushH, .ani b1, .rst4,
      .rpe, .pchl, .jpe w, .xchg, .cpe w, .illegal 0xED, .xri b1, .rst5],
    [.rp, .popPSW, .jp w, .di, .cp w, .pushPSW, .ori b1, .rst6,
      .rm, .sphl, .jm w, .ei, .cm w, .illegal 0xFD, .cpi b1, .rst7] ]

/-- The decoder: total, pure, a function of the opcode byte and of the two following bytes as operand values (R93,
R102, R106, R107). It rejects an illegal byte by the name `illegal`. -/
def decode (b0 b1 b2 : Byte) : Instr :=
  ((opcodeMap b1 b2).getD (b0.toNat / 16) []).getD (b0.toNat % 16) (.illegal b0)

/-- Decoding the head of a byte sequence, bytes past its end reading as 0x00. -/
def decodeBytes (bytes : List Byte) : Instr :=
  decode (bytes.getD 0 0x00) (bytes.getD 1 0x00) (bytes.getD 2 0x00)

/-- Byte `k` of an instruction whose bits are `w`, the first byte in bits 7..0, bits at or above `nbits` being 0. -/
def tableByte (nbits w k : Nat) : Byte := BitVec.ofNat 8 (w % 2 ^ nbits / 256 ^ k)

/-- The instruction the decoder reads from an instruction whose bits are `w`, numbered as `spec/opcode_table.json`
numbers them. -/
def decodeTableWord (nbits w : Nat) : Option Instr :=
  some (decode (tableByte nbits w 0) (tableByte nbits w 1) (tableByte nbits w 2))

/-- The addressing mode of every opcode: `fields.mode` of its row (R106). -/
def Instr.mode : Instr → Mode
  | .nop | .rlc | .rrc | .ral | .rar | .daa | .cma | .stc
  | .cmc | .hlt | .pchl | .xchg | .di | .ei => .implied
  | .lxiB _ | .lxiD _ | .lxiH _ | .shld _ | .lhld _ | .lxiSP _ | .sta _ | .lda _
  | .jnz _ | .jmp _ | .cnz _ | .jz _ | .cz _ | .call _ | .jnc _ | .cnc _
  | .jc _ | .cc _ | .jpo _ | .cpo _ | .jpe _ | .cpe _ | .jp _ | .cp _
  | .jm _ | .cm _ => .imm16
  | .staxB | .inxB | .dadB | .ldaxB | .dcxB | .staxD | .inxD | .dadD
  | .ldaxD | .dcxD | .inxH | .dadH | .dcxH | .inxSP | .dadSP | .dcxSP => .registerPair
  | .inrB | .dcrB | .inrC | .dcrC | .inrD | .dcrD | .inrE | .dcrE
  | .inrH | .dcrH | .inrL | .dcrL | .inrM | .dcrM | .inrA | .dcrA
  | .movBB | .movBC | .movBD | .movBE | .movBH | .movBL | .movBM | .movBA
  | .movCB | .movCC | .movCD | .movCE | .movCH | .movCL | .movCM | .movCA
  | .movDB | .movDC | .movDD | .movDE | .movDH | .movDL | .movDM | .movDA
  | .movEB | .movEC | .movED | .movEE | .movEH | .movEL | .movEM | .movEA
  | .movHB | .movHC | .movHD | .movHE | .movHH | .movHL | .movHM | .movHA
  | .movLB | .movLC | .movLD | .movLE | .movLH | .movLL | .movLM | .movLA
  | .movMB | .movMC | .movMD | .movME | .movMH | .movML | .movMA | .movAB
  | .movAC | .movAD | .movAE | .movAH | .movAL | .movAM | .movAA | .addB
  | .addC | .addD | .addE | .addH | .addL | .addM | .addA | .adcB
  | .adcC | .adcD | .adcE | .adcH | .adcL | .adcM | .adcA | .subB
  | .subC | .subD | .subE | .subH | .subL | .subM | .subA | .sbbB
  | .sbbC | .sbbD | .sbbE | .sbbH | .sbbL | .sbbM | .sbbA | .anaB
  | .anaC | .anaD | .anaE | .anaH | .anaL | .anaM | .anaA | .xraB
  | .xraC | .xraD | .xraE | .xraH | .xraL | .xraM | .xraA | .oraB
  | .oraC | .oraD | .oraE | .oraH | .oraL | .oraM | .oraA | .cmpB
  | .cmpC | .cmpD | .cmpE | .cmpH | .cmpL | .cmpM | .cmpA => .register
  | .mviB _ | .mviC _ | .mviD _ | .mviE _ | .mviH _ | .mviL _ | .mviM _ | .mviA _
  | .adi _ | .aci _ | .outP8 _ | .sui _ | .inP8 _ | .sbi _ | .ani _ | .xri _
  | .ori _ | .cpi _ => .imm8
  | .rnz | .popB | .pushB | .rst0 | .rz | .ret | .rst1 | .rnc
  | .popD | .pushD | .rst2 | .rc | .rst3 | .rpo | .popH | .xthl
  | .pushH | .rst4 | .rpe | .rst5 | .rp | .popPSW | .pushPSW | .rst6
  | .rm | .sphl | .rst7 => .stack
  | .illegal _ => .illegal

/-- The length that a mode gives: `imm8` 2, `imm16` 3, every other mode 1 (R106). -/
def Mode.length : Mode → Nat
  | .imm8 => 2
  | .imm16 => 3
  | .register | .registerPair | .stack | .implied | .illegal => 1

/-- The length of an instruction in bytes (R90). -/
def Instr.length (i : Instr) : Nat := i.mode.length

/-- The kind of an instruction: its mnemonic (R106, R108). ILLEGAL is no kind. -/
def Instr.kind : Instr → Option Kind
  | .nop => some .nop
  | .lxiB _ | .lxiD _ | .lxiH _ | .lxiSP _ => some .lxi
  | .staxB | .staxD => some .stax
  | .inxB | .inxD | .inxH | .inxSP => some .inx
  | .inrB | .inrC | .inrD | .inrE | .inrH | .inrL | .inrM | .inrA => some .inr
  | .dcrB | .dcrC | .dcrD | .dcrE | .dcrH | .dcrL | .dcrM | .dcrA => some .dcr
  | .mviB _ | .mviC _ | .mviD _ | .mviE _ | .mviH _ | .mviL _ | .mviM _ | .mviA _ => some .mvi
  | .rlc => some .rlc
  | .dadB | .dadD | .dadH | .dadSP => some .dad
  | .ldaxB | .ldaxD => some .ldax
  | .dcxB | .dcxD | .dcxH | .dcxSP => some .dcx
  | .rrc => some .rrc
  | .ral => some .ral
  | .rar => some .rar
  | .shld _ => some .shld
  | .daa => some .daa
  | .lhld _ => some .lhld
  | .cma => some .cma
  | .sta _ => some .sta
  | .stc => some .stc
  | .lda _ => some .lda
  | .cmc => some .cmc
  | .movBB | .movBC | .movBD | .movBE | .movBH | .movBL | .movBM | .movBA
  | .movCB | .movCC | .movCD | .movCE | .movCH | .movCL | .movCM | .movCA
  | .movDB | .movDC | .movDD | .movDE | .movDH | .movDL | .movDM | .movDA
  | .movEB | .movEC | .movED | .movEE | .movEH | .movEL | .movEM | .movEA
  | .movHB | .movHC | .movHD | .movHE | .movHH | .movHL | .movHM | .movHA
  | .movLB | .movLC | .movLD | .movLE | .movLH | .movLL | .movLM | .movLA
  | .movMB | .movMC | .movMD | .movME | .movMH | .movML | .movMA | .movAB
  | .movAC | .movAD | .movAE | .movAH | .movAL | .movAM | .movAA => some .mov
  | .hlt => some .hlt
  | .addB | .addC | .addD | .addE | .addH | .addL | .addM | .addA => some .add
  | .adcB | .adcC | .adcD | .adcE | .adcH | .adcL | .adcM | .adcA => some .adc
  | .subB | .subC | .subD | .subE | .subH | .subL | .subM | .subA => some .sub
  | .sbbB | .sbbC | .sbbD | .sbbE | .sbbH | .sbbL | .sbbM | .sbbA => some .sbb
  | .anaB | .anaC | .anaD | .anaE | .anaH | .anaL | .anaM | .anaA => some .ana
  | .xraB | .xraC | .xraD | .xraE | .xraH | .xraL | .xraM | .xraA => some .xra
  | .oraB | .oraC | .oraD | .oraE | .oraH | .oraL | .oraM | .oraA => some .ora
  | .cmpB | .cmpC | .cmpD | .cmpE | .cmpH | .cmpL | .cmpM | .cmpA => some .cmp
  | .rnz => some .rnz
  | .popB | .popD | .popH | .popPSW => some .pop
  | .jnz _ => some .jnz
  | .jmp _ => some .jmp
  | .cnz _ => some .cnz
  | .pushB | .pushD | .pushH | .pushPSW => some .push
  | .adi _ => some .adi
  | .rst0 | .rst1 | .rst2 | .rst3 | .rst4 | .rst5 | .rst6 | .rst7 => some .rst
  | .rz => some .rz
  | .ret => some .ret
  | .jz _ => some .jz
  | .cz _ => some .cz
  | .call _ => some .call
  | .aci _ => some .aci
  | .rnc => some .rnc
  | .jnc _ => some .jnc
  | .outP8 _ => some .out
  | .cnc _ => some .cnc
  | .sui _ => some .sui
  | .rc => some .rc
  | .jc _ => some .jc
  | .inP8 _ => some .inp
  | .cc _ => some .cc
  | .sbi _ => some .sbi
  | .rpo => some .rpo
  | .jpo _ => some .jpo
  | .xthl => some .xthl
  | .cpo _ => some .cpo
  | .ani _ => some .ani
  | .rpe => some .rpe
  | .pchl => some .pchl
  | .jpe _ => some .jpe
  | .xchg => some .xchg
  | .cpe _ => some .cpe
  | .xri _ => some .xri
  | .rp => some .rp
  | .jp _ => some .jp
  | .di => some .di
  | .cp _ => some .cp
  | .ori _ => some .ori
  | .rm => some .rm
  | .sphl => some .sphl
  | .jm _ => some .jm
  | .ei => some .ei
  | .cm _ => some .cm
  | .cpi _ => some .cpi
  | .illegal _ => none

/-- The fields in the encoding pattern of a mnemonic (R94 to R100), at most two. -/
def Kind.fields : Kind → List OpcodeField
  | .nop | .rlc | .rrc | .ral | .rar | .shld | .daa | .lhld | .cma | .sta | .stc | .lda
  | .cmc | .hlt | .jmp | .ret | .call | .out | .inp | .xthl | .pchl | .xchg | .di | .sphl
  | .ei => []
  | .lxi | .stax | .inx | .dad | .ldax | .dcx | .pop | .push => [.rp]
  | .inr | .dcr | .mvi => [.ddd]
  | .mov => [.ddd, .sss]
  | .add | .adc | .sub | .sbb | .ana | .xra | .ora | .cmp => [.ooo, .sss]
  | .rnz | .jnz | .cnz | .rz | .jz | .cz | .rnc | .jnc | .cnc | .rc | .jc | .cc
  | .rpo | .jpo | .cpo | .rpe | .jpe | .cpe | .rp | .jp | .cp | .rm | .jm | .cm => [.ccc]
  | .adi | .aci | .sui | .sbi | .ani | .xri | .ori | .cpi => [.ooo]
  | .rst => [.nnn]

/-- The code that a field of an opcode byte holds, at the bit positions of R92. -/
def OpcodeField.select (opcode : Byte) : OpcodeField → Selector
  | .ddd => .ddd (opcode.extractLsb' 3 3)
  | .sss => .sss (opcode.extractLsb' 0 3)
  | .rp => .rp (opcode.extractLsb' 4 2)
  | .ccc => .ccc (opcode.extractLsb' 3 3)
  | .ooo => .ooo (opcode.extractLsb' 3 3)
  | .nnn => .nnn (opcode.extractLsb' 3 3)

/-- The decoded descriptor (R48, R106): the raw opcode byte, the two following bytes, the kind, the addressing-mode tag
and up to two operand selectors. -/
structure Descriptor where
  opcode : Byte
  b1 : Byte
  b2 : Byte
  kind : Kind
  mode : Mode
  selectors : List Selector
  deriving DecidableEq, Repr

/-- The decoder's result (R106): `Illegal(b0)` or a descriptor. -/
inductive Decoded where
  | illegal (b0 : Byte)
  | descriptor (d : Descriptor)
  deriving DecidableEq, Repr

/-- The decoder's result on three bytes (R106), as the host sees it in a listing (R156). -/
def describe (b0 b1 b2 : Byte) : Decoded :=
  match (decode b0 b1 b2).kind with
  | none => .illegal b0
  | some kind => .descriptor
    { opcode := b0, b1 := b1, b2 := b2, kind := kind, mode := (decode b0 b1 b2).mode,
      selectors := kind.fields.map (OpcodeField.select b0) }

/-- Whether the result is `Illegal`. -/
def Decoded.isIllegal : Decoded → Bool
  | .illegal _ => true
  | .descriptor _ => false

/-- The length of what was decoded, by its mode (R106). -/
def Decoded.length : Decoded → Nat
  | .illegal _ => 1
  | .descriptor d => d.mode.length

/-- The instruction that was decoded. -/
def Decoded.instr : Decoded → Instr
  | .illegal b0 => .illegal b0
  | .descriptor d => decode d.opcode d.b1 d.b2

/-! The encoder. -/

/-- Register codes (R32). -/
def Reg.code : Reg → BitVec 3
  | .b => 0b000
  | .c => 0b001
  | .d => 0b010
  | .e => 0b011
  | .h => 0b100
  | .l => 0b101
  | .a => 0b111

/-- Operand codes: a register's own, and 110 for M (R32). -/
def Operand.code : Operand → BitVec 3
  | .reg r => r.code
  | .m => 0b110

/-- Pair codes in stack-pointer contexts (R35). -/
def Pair.code : Pair → BitVec 2
  | .bc => 0b00
  | .de => 0b01
  | .hl => 0b10
  | .sp => 0b11

/-- Pair codes in PUSH and POP contexts (R36). -/
def StackPair.code : StackPair → BitVec 2
  | .bc => 0b00
  | .de => 0b01
  | .hl => 0b10
  | .psw => 0b11

/-- Condition codes (R99). -/
def Cond.code : Cond → BitVec 3
  | .nz => 0b000
  | .z => 0b001
  | .nc => 0b010
  | .c => 0b011
  | .po => 0b100
  | .pe => 0b101
  | .p => 0b110
  | .m => 0b111

/-- Operation codes (R96). -/
def AluOp.code : AluOp → BitVec 3
  | .add => 0b000
  | .adc => 0b001
  | .sub => 0b010
  | .sbb => 0b011
  | .ana => 0b100
  | .xra => 0b101
  | .ora => 0b110
  | .cmp => 0b111

/-- A 3-bit code in bits 5-3 between two high and three low bits (R92): the shape of `00ddd100`, `11ccc010`,
`11nnn111` and their like. -/
def field3 (hi : BitVec 2) (code lo : BitVec 3) : Byte := hi ++ code ++ lo

/-- A 2-bit pair code in bits 5-4 between two high and four low bits (R92): `00rp0001` and its like. -/
def field2 (hi code : BitVec 2) (lo : BitVec 4) : Byte := hi ++ code ++ lo

/-- The opcode byte of an instruction, from the field patterns R94 to R100. -/
def Instr.opcode : Instr → Byte
  | .nop => 0b00000000
  | .lxiB _ => field2 0b00 (Pair.code .bc) 0b0001
  | .staxB => field2 0b00 (Pair.code .bc) 0b0010
  | .inxB => field2 0b00 (Pair.code .bc) 0b0011
  | .inrB => field3 0b00 (Operand.code (.reg .b)) 0b100
  | .dcrB => field3 0b00 (Operand.code (.reg .b)) 0b101
  | .mviB _ => field3 0b00 (Operand.code (.reg .b)) 0b110
  | .rlc => 0b00000111
  | .dadB => field2 0b00 (Pair.code .bc) 0b1001
  | .ldaxB => field2 0b00 (Pair.code .bc) 0b1010
  | .dcxB => field2 0b00 (Pair.code .bc) 0b1011
  | .inrC => field3 0b00 (Operand.code (.reg .c)) 0b100
  | .dcrC => field3 0b00 (Operand.code (.reg .c)) 0b101
  | .mviC _ => field3 0b00 (Operand.code (.reg .c)) 0b110
  | .rrc => 0b00001111
  | .lxiD _ => field2 0b00 (Pair.code .de) 0b0001
  | .staxD => field2 0b00 (Pair.code .de) 0b0010
  | .inxD => field2 0b00 (Pair.code .de) 0b0011
  | .inrD => field3 0b00 (Operand.code (.reg .d)) 0b100
  | .dcrD => field3 0b00 (Operand.code (.reg .d)) 0b101
  | .mviD _ => field3 0b00 (Operand.code (.reg .d)) 0b110
  | .ral => 0b00010111
  | .dadD => field2 0b00 (Pair.code .de) 0b1001
  | .ldaxD => field2 0b00 (Pair.code .de) 0b1010
  | .dcxD => field2 0b00 (Pair.code .de) 0b1011
  | .inrE => field3 0b00 (Operand.code (.reg .e)) 0b100
  | .dcrE => field3 0b00 (Operand.code (.reg .e)) 0b101
  | .mviE _ => field3 0b00 (Operand.code (.reg .e)) 0b110
  | .rar => 0b00011111
  | .lxiH _ => field2 0b00 (Pair.code .hl) 0b0001
  | .shld _ => 0b00100010
  | .inxH => field2 0b00 (Pair.code .hl) 0b0011
  | .inrH => field3 0b00 (Operand.code (.reg .h)) 0b100
  | .dcrH => field3 0b00 (Operand.code (.reg .h)) 0b101
  | .mviH _ => field3 0b00 (Operand.code (.reg .h)) 0b110
  | .daa => 0b00100111
  | .dadH => field2 0b00 (Pair.code .hl) 0b1001
  | .lhld _ => 0b00101010
  | .dcxH => field2 0b00 (Pair.code .hl) 0b1011
  | .inrL => field3 0b00 (Operand.code (.reg .l)) 0b100
  | .dcrL => field3 0b00 (Operand.code (.reg .l)) 0b101
  | .mviL _ => field3 0b00 (Operand.code (.reg .l)) 0b110
  | .cma => 0b00101111
  | .lxiSP _ => field2 0b00 (Pair.code .sp) 0b0001
  | .sta _ => 0b00110010
  | .inxSP => field2 0b00 (Pair.code .sp) 0b0011
  | .inrM => field3 0b00 (Operand.code .m) 0b100
  | .dcrM => field3 0b00 (Operand.code .m) 0b101
  | .mviM _ => field3 0b00 (Operand.code .m) 0b110
  | .stc => 0b00110111
  | .dadSP => field2 0b00 (Pair.code .sp) 0b1001
  | .lda _ => 0b00111010
  | .dcxSP => field2 0b00 (Pair.code .sp) 0b1011
  | .inrA => field3 0b00 (Operand.code (.reg .a)) 0b100
  | .dcrA => field3 0b00 (Operand.code (.reg .a)) 0b101
  | .mviA _ => field3 0b00 (Operand.code (.reg .a)) 0b110
  | .cmc => 0b00111111
  | .movBB => field3 0b01 (Operand.code (.reg .b)) (Operand.code (.reg .b))
  | .movBC => field3 0b01 (Operand.code (.reg .b)) (Operand.code (.reg .c))
  | .movBD => field3 0b01 (Operand.code (.reg .b)) (Operand.code (.reg .d))
  | .movBE => field3 0b01 (Operand.code (.reg .b)) (Operand.code (.reg .e))
  | .movBH => field3 0b01 (Operand.code (.reg .b)) (Operand.code (.reg .h))
  | .movBL => field3 0b01 (Operand.code (.reg .b)) (Operand.code (.reg .l))
  | .movBM => field3 0b01 (Operand.code (.reg .b)) (Operand.code .m)
  | .movBA => field3 0b01 (Operand.code (.reg .b)) (Operand.code (.reg .a))
  | .movCB => field3 0b01 (Operand.code (.reg .c)) (Operand.code (.reg .b))
  | .movCC => field3 0b01 (Operand.code (.reg .c)) (Operand.code (.reg .c))
  | .movCD => field3 0b01 (Operand.code (.reg .c)) (Operand.code (.reg .d))
  | .movCE => field3 0b01 (Operand.code (.reg .c)) (Operand.code (.reg .e))
  | .movCH => field3 0b01 (Operand.code (.reg .c)) (Operand.code (.reg .h))
  | .movCL => field3 0b01 (Operand.code (.reg .c)) (Operand.code (.reg .l))
  | .movCM => field3 0b01 (Operand.code (.reg .c)) (Operand.code .m)
  | .movCA => field3 0b01 (Operand.code (.reg .c)) (Operand.code (.reg .a))
  | .movDB => field3 0b01 (Operand.code (.reg .d)) (Operand.code (.reg .b))
  | .movDC => field3 0b01 (Operand.code (.reg .d)) (Operand.code (.reg .c))
  | .movDD => field3 0b01 (Operand.code (.reg .d)) (Operand.code (.reg .d))
  | .movDE => field3 0b01 (Operand.code (.reg .d)) (Operand.code (.reg .e))
  | .movDH => field3 0b01 (Operand.code (.reg .d)) (Operand.code (.reg .h))
  | .movDL => field3 0b01 (Operand.code (.reg .d)) (Operand.code (.reg .l))
  | .movDM => field3 0b01 (Operand.code (.reg .d)) (Operand.code .m)
  | .movDA => field3 0b01 (Operand.code (.reg .d)) (Operand.code (.reg .a))
  | .movEB => field3 0b01 (Operand.code (.reg .e)) (Operand.code (.reg .b))
  | .movEC => field3 0b01 (Operand.code (.reg .e)) (Operand.code (.reg .c))
  | .movED => field3 0b01 (Operand.code (.reg .e)) (Operand.code (.reg .d))
  | .movEE => field3 0b01 (Operand.code (.reg .e)) (Operand.code (.reg .e))
  | .movEH => field3 0b01 (Operand.code (.reg .e)) (Operand.code (.reg .h))
  | .movEL => field3 0b01 (Operand.code (.reg .e)) (Operand.code (.reg .l))
  | .movEM => field3 0b01 (Operand.code (.reg .e)) (Operand.code .m)
  | .movEA => field3 0b01 (Operand.code (.reg .e)) (Operand.code (.reg .a))
  | .movHB => field3 0b01 (Operand.code (.reg .h)) (Operand.code (.reg .b))
  | .movHC => field3 0b01 (Operand.code (.reg .h)) (Operand.code (.reg .c))
  | .movHD => field3 0b01 (Operand.code (.reg .h)) (Operand.code (.reg .d))
  | .movHE => field3 0b01 (Operand.code (.reg .h)) (Operand.code (.reg .e))
  | .movHH => field3 0b01 (Operand.code (.reg .h)) (Operand.code (.reg .h))
  | .movHL => field3 0b01 (Operand.code (.reg .h)) (Operand.code (.reg .l))
  | .movHM => field3 0b01 (Operand.code (.reg .h)) (Operand.code .m)
  | .movHA => field3 0b01 (Operand.code (.reg .h)) (Operand.code (.reg .a))
  | .movLB => field3 0b01 (Operand.code (.reg .l)) (Operand.code (.reg .b))
  | .movLC => field3 0b01 (Operand.code (.reg .l)) (Operand.code (.reg .c))
  | .movLD => field3 0b01 (Operand.code (.reg .l)) (Operand.code (.reg .d))
  | .movLE => field3 0b01 (Operand.code (.reg .l)) (Operand.code (.reg .e))
  | .movLH => field3 0b01 (Operand.code (.reg .l)) (Operand.code (.reg .h))
  | .movLL => field3 0b01 (Operand.code (.reg .l)) (Operand.code (.reg .l))
  | .movLM => field3 0b01 (Operand.code (.reg .l)) (Operand.code .m)
  | .movLA => field3 0b01 (Operand.code (.reg .l)) (Operand.code (.reg .a))
  | .movMB => field3 0b01 (Operand.code .m) (Operand.code (.reg .b))
  | .movMC => field3 0b01 (Operand.code .m) (Operand.code (.reg .c))
  | .movMD => field3 0b01 (Operand.code .m) (Operand.code (.reg .d))
  | .movME => field3 0b01 (Operand.code .m) (Operand.code (.reg .e))
  | .movMH => field3 0b01 (Operand.code .m) (Operand.code (.reg .h))
  | .movML => field3 0b01 (Operand.code .m) (Operand.code (.reg .l))
  | .hlt => 0b01110110
  | .movMA => field3 0b01 (Operand.code .m) (Operand.code (.reg .a))
  | .movAB => field3 0b01 (Operand.code (.reg .a)) (Operand.code (.reg .b))
  | .movAC => field3 0b01 (Operand.code (.reg .a)) (Operand.code (.reg .c))
  | .movAD => field3 0b01 (Operand.code (.reg .a)) (Operand.code (.reg .d))
  | .movAE => field3 0b01 (Operand.code (.reg .a)) (Operand.code (.reg .e))
  | .movAH => field3 0b01 (Operand.code (.reg .a)) (Operand.code (.reg .h))
  | .movAL => field3 0b01 (Operand.code (.reg .a)) (Operand.code (.reg .l))
  | .movAM => field3 0b01 (Operand.code (.reg .a)) (Operand.code .m)
  | .movAA => field3 0b01 (Operand.code (.reg .a)) (Operand.code (.reg .a))
  | .addB => field3 0b10 (AluOp.code .add) (Operand.code (.reg .b))
  | .addC => field3 0b10 (AluOp.code .add) (Operand.code (.reg .c))
  | .addD => field3 0b10 (AluOp.code .add) (Operand.code (.reg .d))
  | .addE => field3 0b10 (AluOp.code .add) (Operand.code (.reg .e))
  | .addH => field3 0b10 (AluOp.code .add) (Operand.code (.reg .h))
  | .addL => field3 0b10 (AluOp.code .add) (Operand.code (.reg .l))
  | .addM => field3 0b10 (AluOp.code .add) (Operand.code .m)
  | .addA => field3 0b10 (AluOp.code .add) (Operand.code (.reg .a))
  | .adcB => field3 0b10 (AluOp.code .adc) (Operand.code (.reg .b))
  | .adcC => field3 0b10 (AluOp.code .adc) (Operand.code (.reg .c))
  | .adcD => field3 0b10 (AluOp.code .adc) (Operand.code (.reg .d))
  | .adcE => field3 0b10 (AluOp.code .adc) (Operand.code (.reg .e))
  | .adcH => field3 0b10 (AluOp.code .adc) (Operand.code (.reg .h))
  | .adcL => field3 0b10 (AluOp.code .adc) (Operand.code (.reg .l))
  | .adcM => field3 0b10 (AluOp.code .adc) (Operand.code .m)
  | .adcA => field3 0b10 (AluOp.code .adc) (Operand.code (.reg .a))
  | .subB => field3 0b10 (AluOp.code .sub) (Operand.code (.reg .b))
  | .subC => field3 0b10 (AluOp.code .sub) (Operand.code (.reg .c))
  | .subD => field3 0b10 (AluOp.code .sub) (Operand.code (.reg .d))
  | .subE => field3 0b10 (AluOp.code .sub) (Operand.code (.reg .e))
  | .subH => field3 0b10 (AluOp.code .sub) (Operand.code (.reg .h))
  | .subL => field3 0b10 (AluOp.code .sub) (Operand.code (.reg .l))
  | .subM => field3 0b10 (AluOp.code .sub) (Operand.code .m)
  | .subA => field3 0b10 (AluOp.code .sub) (Operand.code (.reg .a))
  | .sbbB => field3 0b10 (AluOp.code .sbb) (Operand.code (.reg .b))
  | .sbbC => field3 0b10 (AluOp.code .sbb) (Operand.code (.reg .c))
  | .sbbD => field3 0b10 (AluOp.code .sbb) (Operand.code (.reg .d))
  | .sbbE => field3 0b10 (AluOp.code .sbb) (Operand.code (.reg .e))
  | .sbbH => field3 0b10 (AluOp.code .sbb) (Operand.code (.reg .h))
  | .sbbL => field3 0b10 (AluOp.code .sbb) (Operand.code (.reg .l))
  | .sbbM => field3 0b10 (AluOp.code .sbb) (Operand.code .m)
  | .sbbA => field3 0b10 (AluOp.code .sbb) (Operand.code (.reg .a))
  | .anaB => field3 0b10 (AluOp.code .ana) (Operand.code (.reg .b))
  | .anaC => field3 0b10 (AluOp.code .ana) (Operand.code (.reg .c))
  | .anaD => field3 0b10 (AluOp.code .ana) (Operand.code (.reg .d))
  | .anaE => field3 0b10 (AluOp.code .ana) (Operand.code (.reg .e))
  | .anaH => field3 0b10 (AluOp.code .ana) (Operand.code (.reg .h))
  | .anaL => field3 0b10 (AluOp.code .ana) (Operand.code (.reg .l))
  | .anaM => field3 0b10 (AluOp.code .ana) (Operand.code .m)
  | .anaA => field3 0b10 (AluOp.code .ana) (Operand.code (.reg .a))
  | .xraB => field3 0b10 (AluOp.code .xra) (Operand.code (.reg .b))
  | .xraC => field3 0b10 (AluOp.code .xra) (Operand.code (.reg .c))
  | .xraD => field3 0b10 (AluOp.code .xra) (Operand.code (.reg .d))
  | .xraE => field3 0b10 (AluOp.code .xra) (Operand.code (.reg .e))
  | .xraH => field3 0b10 (AluOp.code .xra) (Operand.code (.reg .h))
  | .xraL => field3 0b10 (AluOp.code .xra) (Operand.code (.reg .l))
  | .xraM => field3 0b10 (AluOp.code .xra) (Operand.code .m)
  | .xraA => field3 0b10 (AluOp.code .xra) (Operand.code (.reg .a))
  | .oraB => field3 0b10 (AluOp.code .ora) (Operand.code (.reg .b))
  | .oraC => field3 0b10 (AluOp.code .ora) (Operand.code (.reg .c))
  | .oraD => field3 0b10 (AluOp.code .ora) (Operand.code (.reg .d))
  | .oraE => field3 0b10 (AluOp.code .ora) (Operand.code (.reg .e))
  | .oraH => field3 0b10 (AluOp.code .ora) (Operand.code (.reg .h))
  | .oraL => field3 0b10 (AluOp.code .ora) (Operand.code (.reg .l))
  | .oraM => field3 0b10 (AluOp.code .ora) (Operand.code .m)
  | .oraA => field3 0b10 (AluOp.code .ora) (Operand.code (.reg .a))
  | .cmpB => field3 0b10 (AluOp.code .cmp) (Operand.code (.reg .b))
  | .cmpC => field3 0b10 (AluOp.code .cmp) (Operand.code (.reg .c))
  | .cmpD => field3 0b10 (AluOp.code .cmp) (Operand.code (.reg .d))
  | .cmpE => field3 0b10 (AluOp.code .cmp) (Operand.code (.reg .e))
  | .cmpH => field3 0b10 (AluOp.code .cmp) (Operand.code (.reg .h))
  | .cmpL => field3 0b10 (AluOp.code .cmp) (Operand.code (.reg .l))
  | .cmpM => field3 0b10 (AluOp.code .cmp) (Operand.code .m)
  | .cmpA => field3 0b10 (AluOp.code .cmp) (Operand.code (.reg .a))
  | .rnz => field3 0b11 (Cond.code .nz) 0b000
  | .popB => field2 0b11 (StackPair.code .bc) 0b0001
  | .jnz _ => field3 0b11 (Cond.code .nz) 0b010
  | .jmp _ => 0b11000011
  | .cnz _ => field3 0b11 (Cond.code .nz) 0b100
  | .pushB => field2 0b11 (StackPair.code .bc) 0b0101
  | .adi _ => field3 0b11 (AluOp.code .add) 0b110
  | .rst0 => field3 0b11 0 0b111
  | .rz => field3 0b11 (Cond.code .z) 0b000
  | .ret => 0b11001001
  | .jz _ => field3 0b11 (Cond.code .z) 0b010
  | .cz _ => field3 0b11 (Cond.code .z) 0b100
  | .call _ => 0b11001101
  | .aci _ => field3 0b11 (AluOp.code .adc) 0b110
  | .rst1 => field3 0b11 1 0b111
  | .rnc => field3 0b11 (Cond.code .nc) 0b000
  | .popD => field2 0b11 (StackPair.code .de) 0b0001
  | .jnc _ => field3 0b11 (Cond.code .nc) 0b010
  | .outP8 _ => 0b11010011
  | .cnc _ => field3 0b11 (Cond.code .nc) 0b100
  | .pushD => field2 0b11 (StackPair.code .de) 0b0101
  | .sui _ => field3 0b11 (AluOp.code .sub) 0b110
  | .rst2 => field3 0b11 2 0b111
  | .rc => field3 0b11 (Cond.code .c) 0b000
  | .jc _ => field3 0b11 (Cond.code .c) 0b010
  | .inP8 _ => 0b11011011
  | .cc _ => field3 0b11 (Cond.code .c) 0b100
  | .sbi _ => field3 0b11 (AluOp.code .sbb) 0b110
  | .rst3 => field3 0b11 3 0b111
  | .rpo => field3 0b11 (Cond.code .po) 0b000
  | .popH => field2 0b11 (StackPair.code .hl) 0b0001
  | .jpo _ => field3 0b11 (Cond.code .po) 0b010
  | .xthl => 0b11100011
  | .cpo _ => field3 0b11 (Cond.code .po) 0b100
  | .pushH => field2 0b11 (StackPair.code .hl) 0b0101
  | .ani _ => field3 0b11 (AluOp.code .ana) 0b110
  | .rst4 => field3 0b11 4 0b111
  | .rpe => field3 0b11 (Cond.code .pe) 0b000
  | .pchl => 0b11101001
  | .jpe _ => field3 0b11 (Cond.code .pe) 0b010
  | .xchg => 0b11101011
  | .cpe _ => field3 0b11 (Cond.code .pe) 0b100
  | .xri _ => field3 0b11 (AluOp.code .xra) 0b110
  | .rst5 => field3 0b11 5 0b111
  | .rp => field3 0b11 (Cond.code .p) 0b000
  | .popPSW => field2 0b11 (StackPair.code .psw) 0b0001
  | .jp _ => field3 0b11 (Cond.code .p) 0b010
  | .di => 0b11110011
  | .cp _ => field3 0b11 (Cond.code .p) 0b100
  | .pushPSW => field2 0b11 (StackPair.code .psw) 0b0101
  | .ori _ => field3 0b11 (AluOp.code .ora) 0b110
  | .rst6 => field3 0b11 6 0b111
  | .rm => field3 0b11 (Cond.code .m) 0b000
  | .sphl => 0b11111001
  | .jm _ => field3 0b11 (Cond.code .m) 0b010
  | .ei => 0b11111011
  | .cm _ => field3 0b11 (Cond.code .m) 0b100
  | .cpi _ => field3 0b11 (AluOp.code .cmp) 0b110
  | .rst7 => field3 0b11 7 0b111
  | .illegal op => op

/-- The operand bytes of an instruction, in address order: the low byte of a 16-bit operand first (R91, R105). -/
def Instr.operandBytes : Instr → List Byte
  | .mviB v | .mviC v | .mviD v | .mviE v | .mviH v | .mviL v | .mviM v | .mviA v
  | .adi v | .aci v | .outP8 v | .sui v | .inP8 v | .sbi v | .ani v | .xri v
  | .ori v | .cpi v => [v]
  | .lxiB v | .lxiD v | .lxiH v | .shld v | .lhld v | .lxiSP v | .sta v | .lda v
  | .jnz v | .jmp v | .cnz v | .jz v | .cz v | .call v | .jnc v | .cnc v
  | .jc v | .cc v | .jpo v | .cpo v | .jpe v | .cpe v | .jp v | .cp v
  | .jm v | .cm v => [lowByte v, highByte v]
  | .nop | .staxB | .inxB | .inrB | .dcrB | .rlc | .dadB | .ldaxB | .dcxB | .inrC
  | .dcrC | .rrc | .staxD | .inxD | .inrD | .dcrD | .ral | .dadD | .ldaxD | .dcxD
  | .inrE | .dcrE | .rar | .inxH | .inrH | .dcrH | .daa | .dadH | .dcxH | .inrL
  | .dcrL | .cma | .inxSP | .inrM | .dcrM | .stc | .dadSP | .dcxSP | .inrA | .dcrA
  | .cmc | .movBB | .movBC | .movBD | .movBE | .movBH | .movBL | .movBM | .movBA | .movCB
  | .movCC | .movCD | .movCE | .movCH | .movCL | .movCM | .movCA | .movDB | .movDC | .movDD
  | .movDE | .movDH | .movDL | .movDM | .movDA | .movEB | .movEC | .movED | .movEE | .movEH
  | .movEL | .movEM | .movEA | .movHB | .movHC | .movHD | .movHE | .movHH | .movHL | .movHM
  | .movHA | .movLB | .movLC | .movLD | .movLE | .movLH | .movLL | .movLM | .movLA | .movMB
  | .movMC | .movMD | .movME | .movMH | .movML | .hlt | .movMA | .movAB | .movAC | .movAD
  | .movAE | .movAH | .movAL | .movAM | .movAA | .addB | .addC | .addD | .addE | .addH
  | .addL | .addM | .addA | .adcB | .adcC | .adcD | .adcE | .adcH | .adcL | .adcM
  | .adcA | .subB | .subC | .subD | .subE | .subH | .subL | .subM | .subA | .sbbB
  | .sbbC | .sbbD | .sbbE | .sbbH | .sbbL | .sbbM | .sbbA | .anaB | .anaC | .anaD
  | .anaE | .anaH | .anaL | .anaM | .anaA | .xraB | .xraC | .xraD | .xraE | .xraH
  | .xraL | .xraM | .xraA | .oraB | .oraC | .oraD | .oraE | .oraH | .oraL | .oraM
  | .oraA | .cmpB | .cmpC | .cmpD | .cmpE | .cmpH | .cmpL | .cmpM | .cmpA | .rnz
  | .popB | .pushB | .rst0 | .rz | .ret | .rst1 | .rnc | .popD | .pushD | .rst2
  | .rc | .rst3 | .rpo | .popH | .xthl | .pushH | .rst4 | .rpe | .pchl | .xchg
  | .rst5 | .rp | .popPSW | .di | .pushPSW | .rst6 | .rm | .sphl | .ei | .rst7 | .illegal _ => []

/-- The bytes of an instruction, in address order (R91). -/
def encode (i : Instr) : List Byte := i.opcode :: i.operandBytes

end Sys2Proof
end

