-- ==== Sys2Proof/Config.lean ====
section
/-! DEFINITION. The implementation parameters of `00_scope.md` R7 that the spec leaves open, and the size of the
address space. -/

namespace Sys2Proof.Config

/-- The memory space has 65536 bytes (R7, R60). -/
def memorySize : Nat := 0x10000

/-- The values that `SP_RESET` may take: "a 16-bit value other than 0x0000" (R7, R50, D10). -/
abbrev SpReset := { v : Word // v ≠ 0x0000 }

/-- `SP_RESET` as `State.reset` takes it: the spec leaves it OPEN but for "a fixed non-zero default" (R50, D10).
DESIGN CHOICE (log entry 1, unsafe): 0xF000, the value the spec fixes for its own vectors (`95_test_vectors.md`).
`constructWith` and `hostResetWith` take any other value. -/
def spReset : SpReset := ⟨0xF000, by decide⟩

/-- What an address that memory does not list reads as. The spec leaves `MEM_INIT` OPEN (R50, R600, D13).
DESIGN CHOICE (log entry 2, unsafe for statements about the reset state): 0x00. `constructWith` takes any `MEM_INIT`
map and lists its bytes, so a statement about every state holds for every `MEM_INIT`. -/
def memInitByte : Byte := 0x00

/-- `INPUT`, the OPEN oracle of R7 and R395: the byte that the IN step number `n` (counting from 0) reads from port
`p`. A free value: it has no body, so a proof about IN holds for every byte (R143, log entry 3). -/
opaque input (n : Nat) (p : Byte) : Byte

end Sys2Proof.Config
end

