-- ==== Sys2Proof/Machine/State.lean ====
section
/-! DEFINITION. The architectural state (`10_state.md`), the reset state (R50), and the reasons a step can stop
outside the architecture. -/

namespace Sys2Proof.Machine

/-- The five status flags (R40): sign, zero, auxiliary carry, parity (true for an even number of 1 bits, R41),
carry. -/
structure Flags where
  s  : Bool
  z  : Bool
  ac : Bool
  p  : Bool
  cy : Bool
  deriving DecidableEq, Repr

/-- The `kind` of a `Faulted` stop (R47): a decode failure is the only one. -/
inductive FaultKind where
  | decodeFailure
  deriving DecidableEq, Repr

/-- The stop status `STOP` (R47). The constructor names are the architected cause codes (R142, D27). -/
inductive Stop where
  | running
  | halted
  | endOfAddressSpace
  | faulted (kind : FaultKind) (opcode : Byte) (pc : Word)
  deriving DecidableEq, Repr

/-- The memory space (R60) as address and byte pairs in one canonical form, `Memory.wf` (Machine/Ops.lean): addresses
strictly rising and below 65536, no byte equal to `Config.memInitByte`, which every unlisted address reads as. -/
abbrev Memory := List Host.Cell

/-- The whole state of the processor (R50, R51). `inCount` is the model's own field: how many IN steps have been
taken, so that each takes a fresh byte of the `INPUT` oracle (R395, log entry 3). -/
structure State where
  /-- The accumulator A (R30). -/
  a : Byte
  b : Byte
  c : Byte
  d : Byte
  e : Byte
  h : Byte
  l : Byte
  /-- S, Z, AC, P and CY (R40). -/
  flags : Flags
  /-- PC: during a step, the address of the instruction's opcode byte (R39). -/
  pc : Word
  /-- SP (R38). -/
  sp : Word
  /-- INTE (R45). -/
  inte : Bool
  /-- OUT_LATCH (R46). -/
  outLatch : Byte
  /-- STOP (R47). -/
  stop : Stop
  mem : Memory
  inCount : Nat
  deriving DecidableEq, Repr

/-- Reasons for `Outcome.fault`. The spec's own faults and stops are values of STOP, so NEXT states (R131, R133,
R502, R503); this type holds only what the spec says cannot occur. -/
inductive Fault where
  /-- A decoder and processor mismatch (R501, D29): raised by the meaning of `Instr.illegal op` when `op` is not one
  of the twelve illegal bytes, a term that no decoding gives. Safe: no step reaches it (log entry 4). -/
  | decoderMismatch
  deriving DecidableEq, Repr

/-- Reasons for `Outcome.refused`. -/
inductive Refusal where
  /-- An instruction that has no meaning yet, rejected by its table mnemonic in Machine/Dispatch.lean. Safe. No arm
  of this model uses it. -/
  | notModelled (mnemonic : String)
  deriving DecidableEq, Repr

/-- The answer of a meaning and of a step. -/
abbrev Answer := Host.Outcome State Fault Refusal

/-- All five flags false (R50, D9). -/
def Flags.reset : Flags :=
  { s := false, z := false, ac := false, p := false, cy := false }

/-- The processor right after construction with an empty image (R50, R600): registers and latch 0x00, flags and INTE
false, PC = 0x0000, SP = `Config.spReset` (log entry 1), STOP = Running, memory with nothing listed (log entry 2). -/
def State.reset : State :=
  { a := 0x00, b := 0x00, c := 0x00, d := 0x00, e := 0x00, h := 0x00, l := 0x00
    flags := Flags.reset
    pc := 0x0000
    sp := Config.spReset.val
    inte := false
    outLatch := 0x00
    stop := .running
    mem := []
    inCount := 0 }

end Sys2Proof.Machine
end

