-- ==== Sys2Proof/Machine/Ops.lean ====
section
/-! DEFINITION. The shared operations: memory (R11, R60 to R67), the stack (R300), the fetch (R132), the end of an
instruction (R134 to R137), and the one exception, the decode fault (R500). -/

namespace Sys2Proof.Machine

/-! Memory. -/

/-- The canonical form from address `lo` on: addresses rise strictly from `lo`, stay below 65536, and no listed byte
equals what an unlisted address reads as. -/
def Memory.wfFrom (lo : Nat) : Memory → Bool
  | [] => true
  | (k, v) :: rest =>
    decide (lo ≤ k) && decide (k < Config.memorySize) && v != Config.memInitByte && Memory.wfFrom (k + 1) rest

/-- The canonical form of memory: equal memories are equal lists. -/
def Memory.wf (m : Memory) : Bool := Memory.wfFrom 0 m

/-- The byte at an address: the listed one, else `Config.memInitByte`. -/
def Memory.read : Memory → Nat → Byte
  | [], _ => Config.memInitByte
  | (k, v) :: rest, a => if k = a then v else Memory.read rest a

/-- Writing a byte, keeping the canonical form: writing `Config.memInitByte` removes the entry. -/
def Memory.write : Memory → Nat → Byte → Memory
  | [], a, v => if v = Config.memInitByte then [] else [(a, v)]
  | (k, w) :: rest, a, v =>
    if a < k then
      if v = Config.memInitByte then (k, w) :: rest else (a, v) :: (k, w) :: rest
    else if a = k then
      if v = Config.memInitByte then rest else (a, v) :: rest
    else (k, w) :: Memory.write rest a v

/-- `MemRead(addr, 1)` (R11). An address is a `Word`, so it is already reduced modulo 2^16 (R63). -/
def State.memRead (s : State) (a : Word) : Byte := s.mem.read a.toNat

/-- `MemWrite(addr, 1, v)` (R11). -/
def State.memWrite (s : State) (a : Word) (v : Byte) : State :=
  { s with mem := s.mem.write a.toNat v }

/-- `MemRead(addr, 2)` (R11): little-endian, the second address wrapping modulo 2^16 (R63, R64). -/
def State.memRead16 (s : State) (a : Word) : Word := joinBytes (s.memRead (a + 1)) (s.memRead a)

/-- `MemWrite(addr, 2, v)` (R11): the low byte at `addr`, then the high byte at `addr + 1` (R64). -/
def State.memWrite16 (s : State) (a : Word) (v : Word) : State :=
  (s.memWrite a (lowByte v)).memWrite (a + 1) (highByte v)

/-! The stack (R11, R300). -/

/-- `Push16(v)`: the high byte to SP-1, the low byte to SP-2, SP <- SP-2. -/
def push16 (v : Word) (s : State) : State :=
  let s1 := s.memWrite (s.sp - 1) (highByte v)
  let s2 := s1.memWrite (s.sp - 2) (lowByte v)
  { s2 with sp := s.sp - 2 }

/-- The value `Pop16()` returns: the low byte from SP, the high byte from SP+1. -/
def stackTop (s : State) : Word := s.memRead16 s.sp

/-- What `Pop16()` does to the state: SP <- SP+2. The popped bytes stay in memory (R273, R304). -/
def dropTop (s : State) : State := { s with sp := s.sp + 2 }

/-! The step's parts. -/

/-- Only `Running` lets a step execute an instruction (R47, R131). -/
def isRunning (s : State) : Bool := s.stop == .running

/-- Fetch and decode (R132, R133): the three bytes at PC, PC+1, PC+2, always all three, addresses modulo 2^16. -/
def fetchInstr (s : State) : Instr :=
  decode (s.memRead s.pc) (s.memRead (s.pc + 1)) (s.memRead (s.pc + 2))

/-- The next-PC result of an instruction's rule (R135). -/
inductive NextPc where
  | seq
  | target (t : Word)
  | halt
  deriving DecidableEq, Repr

/-- TAKING THE EXCEPTION: `raise DecodeFault(opcode, pc)` (R12, R133, R500, R511). It records
STOP <- Faulted(DecodeFailure, opcode, pc) and nothing else: no register, flag, memory byte, latch or PC changes, no
return address is saved, and no handler is entered. There is no return from it (R512): only reconstruction leaves it
(R602). -/
def raiseDecodeFault (opcode : Byte) (s : State) : State :=
  { s with stop := .faulted .decodeFailure opcode s.pc }

/-- `stop EndOfAddressSpace` (R12, R502). -/
def stopAtEnd (s : State) : State := { s with stop := .endOfAddressSpace }

/-- The PC update after the execution of an instruction of `len` bytes at `pc` (R136), with the stop at the end of the
address space (R137) and the stop of HLT (R391). -/
def finish (pc : Word) (len : Nat) (r : NextPc) (s : State) : State :=
  match r with
  | .target t => { s with pc := t }
  | .halt => { s with pc := pc + 1, stop := .halted }
  | .seq =>
    if pc.toNat + len < Config.memorySize then { s with pc := pc + BitVec.ofNat 16 len }
    else stopAtEnd s

/-- Running an instruction of `len` bytes whose rule is `body` (R134 to R137, R139): an instruction that extends past
0xFFFF stops before it executes; else the rule makes its writes with PC held, and then PC is updated. -/
def perform (len : Nat) (body : State → State × NextPc) (s : State) : Answer :=
  if Config.memorySize < s.pc.toNat + len then .next (stopAtEnd s)
  else .next (finish s.pc len (body s).2 (body s).1)

/-- An instruction whose result is always `Seq`. -/
def performSeq (len : Nat) (f : State → State) (s : State) : Answer :=
  perform len (fun s => (f s, .seq)) s

/-- The `Illegal` result of the decoder (R133): the decode fault. On a byte that is not illegal, a term no decoding
gives, the decoder and processor mismatch of R501. -/
def performIllegal (op : Byte) (s : State) : Answer :=
  if illegalBytes.contains op then .next (raiseDecodeFault op s) else .fault .decoderMismatch

end Sys2Proof.Machine
end

