-- ==== Sys2Proof/Machine/Operands.lean ====
section
/-! DEFINITION. Operand access: 8-bit registers and M (R32, R33), register pairs in their two contexts (R34 to
R37). The PSW context is in Machine/Flags.lean, beside the flags byte. -/

namespace Sys2Proof.Machine

/-- `x[r]` (R10). -/
def State.reg (s : State) : Reg → Byte
  | .b => s.b
  | .c => s.c
  | .d => s.d
  | .e => s.e
  | .h => s.h
  | .l => s.l
  | .a => s.a

/-- `x[r] <- v` (R10). -/
def State.setReg (s : State) (r : Reg) (v : Byte) : State :=
  match r with
  | .b => { s with b := v }
  | .c => { s with c := v }
  | .d => { s with d := v }
  | .e => { s with e := v }
  | .h => { s with h := v }
  | .l => { s with l := v }
  | .a => { s with a := v }

/-- `rp(code)` (R34, R35): the first-named register is the high byte. -/
def State.pair (s : State) : Pair → Word
  | .bc => joinBytes s.b s.c
  | .de => joinBytes s.d s.e
  | .hl => joinBytes s.h s.l
  | .sp => s.sp

/-- `setrp(code, v)` (R34, R35). -/
def State.setPair (s : State) (p : Pair) (v : Word) : State :=
  match p with
  | .bc => { s with b := highByte v, c := lowByte v }
  | .de => { s with d := highByte v, e := lowByte v }
  | .hl => { s with h := highByte v, l := lowByte v }
  | .sp => { s with sp := v }

/-- HL, the address of M (R33, R34). -/
def State.hl (s : State) : Word := joinBytes s.h s.l

/-- `reg(code)` (R33): a register, or the memory byte at HL. -/
def State.operand (s : State) : Operand → Byte
  | .reg r => s.reg r
  | .m => s.memRead s.hl

/-- `setreg(code, v)` (R33). -/
def State.setOperand (s : State) (o : Operand) (v : Byte) : State :=
  match o with
  | .reg r => s.setReg r v
  | .m => s.memWrite s.hl v

end Sys2Proof.Machine
end

