-- ==== Sys2Proof/Machine/Flags.lean ====
section
/-! DEFINITION. Every flag computation of the spec: S, Z and P from a result (R40, R41), the carries of the
arithmetic and logical operations (R201, R202), of INR and DCR (R350), of DAD (R359) and of DAA (R375), the flags byte
(R43, R44), the PSW (R36) and the conditions (R99). -/

namespace Sys2Proof.Machine

/-- `popcount(v)` (R9): the number of 1 bits. -/
def popcount (v : Byte) : Nat := ((List.range 8).filter fun i => v.getLsbD i).length

/-- The parity flag of a result: true for an even number of 1 bits (R41). -/
def evenParity (v : Byte) : Bool := popcount v % 2 == 0

/-- `v[3:0]` as a number (R8). -/
def lowNibble (v : Byte) : Nat := v.toNat % 16

/-- `zsp(r)` (R13, R40): Z, S and P from the result byte, AC and CY kept. -/
def zsp (r : Byte) (f : Flags) : Flags := { f with z := r == 0, s := r.msb, p := evenParity r }

/-- The exact sum `a + b + cy` (R202). -/
def addExact (a b : Byte) (cy : Bool) : Nat := a.toNat + b.toNat + cy.toNat

/-- The result byte of an addition, `trunc_8(res)` (R202). -/
def addResult (a b : Byte) (cy : Bool) : Byte := BitVec.ofNat 8 (addExact a b cy)

/-- The flags of an addition (R201 to R203). The carry-in does not enter AC (D15). -/
def addFlags (a b : Byte) (cy : Bool) (f : Flags) : Flags :=
  zsp (addResult a b cy)
    { f with ac := decide (0xF < lowNibble a + lowNibble b), cy := decide (0xFF < addExact a b cy) }

/-- The exact difference `a - b - cy` (R202). -/
def subExact (a b : Byte) (cy : Bool) : Int := (a.toNat : Int) - b.toNat - cy.toNat

/-- The result byte of a subtraction, `trunc_8(res)` in two's complement (R202). -/
def subResult (a b : Byte) (cy : Bool) : Byte := BitVec.ofInt 8 (subExact a b cy)

/-- The flags of a subtraction or comparison (R201 to R203). The borrow-in does not enter AC (D15). -/
def subFlags (a b : Byte) (cy : Bool) (f : Flags) : Flags :=
  zsp (subResult a b cy)
    { f with ac := decide (lowNibble a < lowNibble b), cy := decide (a.toNat < b.toNat + cy.toNat) }

/-- The flags of a logical operation with result `r`: CY and AC false (R201, R202). -/
def logicFlags (r : Byte) (f : Flags) : Flags := zsp r { f with ac := false, cy := false }

/-- The flags of INR on the value `v`: AC when the low nibble was 0xF, CY kept (R350, R351, R353). -/
def incFlags (v : Byte) (f : Flags) : Flags := zsp (v + 1) { f with ac := lowNibble v == 0xF }

/-- The flags of DCR on the value `v`: AC when the low nibble was 0x0, CY kept (R350, R351, R355). -/
def decFlags (v : Byte) (f : Flags) : Flags := zsp (v - 1) { f with ac := lowNibble v == 0x0 }

/-- The exact sum of DAD (R359). -/
def dadExact (x y : Word) : Nat := x.toNat + y.toNat

/-- The flags of DAD: CY from the carry out of bit 15, the others kept (R359). -/
def dadFlags (x y : Word) (f : Flags) : Flags := { f with cy := decide (0xFFFF < dadExact x y) }

/-- DAA's test for the correction of the low digit (R375). -/
def daaLow (a : Byte) (f : Flags) : Bool := decide (9 < lowNibble a) || f.ac

/-- DAA's test for the correction of the high digit (R375). -/
def daaHigh (a : Byte) (f : Flags) : Bool := decide (0x99 < a.toNat) || f.cy

/-- DAA's correction byte `corr` (R375). -/
def daaCorrection (a : Byte) (f : Flags) : Byte :=
  (if daaLow a f then 0x06 else 0x00) ||| (if daaHigh a f then 0x60 else 0x00)

/-- DAA's result byte (R375). -/
def daaResult (a : Byte) (f : Flags) : Byte := BitVec.ofNat 8 (a.toNat + (daaCorrection a f).toNat)

/-- DAA's flags: AC from the low-nibble carry of the correction, CY set with the high correction and else kept
(R375). -/
def daaFlags (a : Byte) (f : Flags) : Flags :=
  zsp (daaResult a f)
    { f with ac := decide (0xF < lowNibble a + lowNibble (daaCorrection a f)), cy := daaHigh a f }

/-- `packFlags` (R43): the flags byte S Z 0 AC 0 P 1 CY, bit 7 first. -/
def packFlags (f : Flags) : Byte :=
  BitVec.ofBool f.s ++ BitVec.ofBool f.z ++ 0#1 ++ BitVec.ofBool f.ac ++ 0#1 ++ BitVec.ofBool f.p ++ 1#1
    ++ BitVec.ofBool f.cy

/-- `unpackFlags` (R44): bits 5, 3 and 1 are discarded. -/
def unpackFlags (v : Byte) : Flags :=
  { s := v.getLsbD 7, z := v.getLsbD 6, ac := v.getLsbD 4, p := v.getLsbD 2, cy := v.getLsbD 0 }

/-- `rpPSW(code)` (R36): the PSW is the flags byte (high) and A (low), C6. -/
def State.stackPair (s : State) : StackPair → Word
  | .bc => joinBytes s.b s.c
  | .de => joinBytes s.d s.e
  | .hl => joinBytes s.h s.l
  | .psw => joinBytes (packFlags s.flags) s.a

/-- `setrpPSW(code, v)` (R36). -/
def State.setStackPair (s : State) (p : StackPair) (v : Word) : State :=
  match p with
  | .bc => { s with b := highByte v, c := lowByte v }
  | .de => { s with d := highByte v, e := lowByte v }
  | .hl => { s with h := highByte v, l := lowByte v }
  | .psw => { s with flags := unpackFlags (highByte v), a := lowByte v }

/-- `cond(ccc)` (R99). -/
def condHolds (f : Flags) : Cond → Bool
  | .nz => !f.z
  | .z => f.z
  | .nc => !f.cy
  | .c => f.cy
  | .po => !f.p
  | .pe => f.p
  | .p => !f.s
  | .m => f.s

end Sys2Proof.Machine
end

