-- ==== Sys2Proof/Machine/Arith.lean ====
section
/-! DEFINITION. The arithmetic and logical group (`41_arith_logic.md` R200 to R228): eight operations, each with a register, M
or an immediate byte as its operand. -/

namespace Sys2Proof.Machine

/-- The common operation on the operand byte `b` (R200 to R204). The result goes to A, but for CMP, which sets the
flags of SUB and writes no register (R203, R226). -/
def aluOn (op : AluOp) (b : Byte) (s : State) : State :=
  match op with
  | .add => { s with a := addResult s.a b false, flags := addFlags s.a b false s.flags }
  | .adc => { s with a := addResult s.a b s.flags.cy, flags := addFlags s.a b s.flags.cy s.flags }
  | .sub => { s with a := subResult s.a b false, flags := subFlags s.a b false s.flags }
  | .sbb => { s with a := subResult s.a b s.flags.cy, flags := subFlags s.a b s.flags.cy s.flags }
  | .ana => { s with a := s.a &&& b, flags := logicFlags (s.a &&& b) s.flags }
  | .xra => { s with a := s.a ^^^ b, flags := logicFlags (s.a ^^^ b) s.flags }
  | .ora => { s with a := s.a ||| b, flags := logicFlags (s.a ||| b) s.flags }
  | .cmp => { s with flags := subFlags s.a b false s.flags }

/-- ADD B (R205). -/
def execAddB (s : State) : Answer := performSeq 1 (fun s => aluOn .add (s.operand (.reg .b)) s) s

/-- ADD C (R205). -/
def execAddC (s : State) : Answer := performSeq 1 (fun s => aluOn .add (s.operand (.reg .c)) s) s

/-- ADD D (R205). -/
def execAddD (s : State) : Answer := performSeq 1 (fun s => aluOn .add (s.operand (.reg .d)) s) s

/-- ADD E (R205). -/
def execAddE (s : State) : Answer := performSeq 1 (fun s => aluOn .add (s.operand (.reg .e)) s) s

/-- ADD H (R205). -/
def execAddH (s : State) : Answer := performSeq 1 (fun s => aluOn .add (s.operand (.reg .h)) s) s

/-- ADD L (R205). -/
def execAddL (s : State) : Answer := performSeq 1 (fun s => aluOn .add (s.operand (.reg .l)) s) s

/-- ADD M (R206). -/
def execAddM (s : State) : Answer := performSeq 1 (fun s => aluOn .add (s.operand .m) s) s

/-- ADD A (R205). -/
def execAddA (s : State) : Answer := performSeq 1 (fun s => aluOn .add (s.operand (.reg .a)) s) s

/-- ADC B (R208). -/
def execAdcB (s : State) : Answer := performSeq 1 (fun s => aluOn .adc (s.operand (.reg .b)) s) s

/-- ADC C (R208). -/
def execAdcC (s : State) : Answer := performSeq 1 (fun s => aluOn .adc (s.operand (.reg .c)) s) s

/-- ADC D (R208). -/
def execAdcD (s : State) : Answer := performSeq 1 (fun s => aluOn .adc (s.operand (.reg .d)) s) s

/-- ADC E (R208). -/
def execAdcE (s : State) : Answer := performSeq 1 (fun s => aluOn .adc (s.operand (.reg .e)) s) s

/-- ADC H (R208). -/
def execAdcH (s : State) : Answer := performSeq 1 (fun s => aluOn .adc (s.operand (.reg .h)) s) s

/-- ADC L (R208). -/
def execAdcL (s : State) : Answer := performSeq 1 (fun s => aluOn .adc (s.operand (.reg .l)) s) s

/-- ADC M (R209). -/
def execAdcM (s : State) : Answer := performSeq 1 (fun s => aluOn .adc (s.operand .m) s) s

/-- ADC A (R208). -/
def execAdcA (s : State) : Answer := performSeq 1 (fun s => aluOn .adc (s.operand (.reg .a)) s) s

/-- SUB B (R211). -/
def execSubB (s : State) : Answer := performSeq 1 (fun s => aluOn .sub (s.operand (.reg .b)) s) s

/-- SUB C (R211). -/
def execSubC (s : State) : Answer := performSeq 1 (fun s => aluOn .sub (s.operand (.reg .c)) s) s

/-- SUB D (R211). -/
def execSubD (s : State) : Answer := performSeq 1 (fun s => aluOn .sub (s.operand (.reg .d)) s) s

/-- SUB E (R211). -/
def execSubE (s : State) : Answer := performSeq 1 (fun s => aluOn .sub (s.operand (.reg .e)) s) s

/-- SUB H (R211). -/
def execSubH (s : State) : Answer := performSeq 1 (fun s => aluOn .sub (s.operand (.reg .h)) s) s

/-- SUB L (R211). -/
def execSubL (s : State) : Answer := performSeq 1 (fun s => aluOn .sub (s.operand (.reg .l)) s) s

/-- SUB M (R212). -/
def execSubM (s : State) : Answer := performSeq 1 (fun s => aluOn .sub (s.operand .m) s) s

/-- SUB A (R211). -/
def execSubA (s : State) : Answer := performSeq 1 (fun s => aluOn .sub (s.operand (.reg .a)) s) s

/-- SBB B (R214). -/
def execSbbB (s : State) : Answer := performSeq 1 (fun s => aluOn .sbb (s.operand (.reg .b)) s) s

/-- SBB C (R214). -/
def execSbbC (s : State) : Answer := performSeq 1 (fun s => aluOn .sbb (s.operand (.reg .c)) s) s

/-- SBB D (R214). -/
def execSbbD (s : State) : Answer := performSeq 1 (fun s => aluOn .sbb (s.operand (.reg .d)) s) s

/-- SBB E (R214). -/
def execSbbE (s : State) : Answer := performSeq 1 (fun s => aluOn .sbb (s.operand (.reg .e)) s) s

/-- SBB H (R214). -/
def execSbbH (s : State) : Answer := performSeq 1 (fun s => aluOn .sbb (s.operand (.reg .h)) s) s

/-- SBB L (R214). -/
def execSbbL (s : State) : Answer := performSeq 1 (fun s => aluOn .sbb (s.operand (.reg .l)) s) s

/-- SBB M (R215). -/
def execSbbM (s : State) : Answer := performSeq 1 (fun s => aluOn .sbb (s.operand .m) s) s

/-- SBB A (R214). -/
def execSbbA (s : State) : Answer := performSeq 1 (fun s => aluOn .sbb (s.operand (.reg .a)) s) s

/-- ANA B (R217). -/
def execAnaB (s : State) : Answer := performSeq 1 (fun s => aluOn .ana (s.operand (.reg .b)) s) s

/-- ANA C (R217). -/
def execAnaC (s : State) : Answer := performSeq 1 (fun s => aluOn .ana (s.operand (.reg .c)) s) s

/-- ANA D (R217). -/
def execAnaD (s : State) : Answer := performSeq 1 (fun s => aluOn .ana (s.operand (.reg .d)) s) s

/-- ANA E (R217). -/
def execAnaE (s : State) : Answer := performSeq 1 (fun s => aluOn .ana (s.operand (.reg .e)) s) s

/-- ANA H (R217). -/
def execAnaH (s : State) : Answer := performSeq 1 (fun s => aluOn .ana (s.operand (.reg .h)) s) s

/-- ANA L (R217). -/
def execAnaL (s : State) : Answer := performSeq 1 (fun s => aluOn .ana (s.operand (.reg .l)) s) s

/-- ANA M (R218). -/
def execAnaM (s : State) : Answer := performSeq 1 (fun s => aluOn .ana (s.operand .m) s) s

/-- ANA A (R217). -/
def execAnaA (s : State) : Answer := performSeq 1 (fun s => aluOn .ana (s.operand (.reg .a)) s) s

/-- XRA B (R220). -/
def execXraB (s : State) : Answer := performSeq 1 (fun s => aluOn .xra (s.operand (.reg .b)) s) s

/-- XRA C (R220). -/
def execXraC (s : State) : Answer := performSeq 1 (fun s => aluOn .xra (s.operand (.reg .c)) s) s

/-- XRA D (R220). -/
def execXraD (s : State) : Answer := performSeq 1 (fun s => aluOn .xra (s.operand (.reg .d)) s) s

/-- XRA E (R220). -/
def execXraE (s : State) : Answer := performSeq 1 (fun s => aluOn .xra (s.operand (.reg .e)) s) s

/-- XRA H (R220). -/
def execXraH (s : State) : Answer := performSeq 1 (fun s => aluOn .xra (s.operand (.reg .h)) s) s

/-- XRA L (R220). -/
def execXraL (s : State) : Answer := performSeq 1 (fun s => aluOn .xra (s.operand (.reg .l)) s) s

/-- XRA M (R221). -/
def execXraM (s : State) : Answer := performSeq 1 (fun s => aluOn .xra (s.operand .m) s) s

/-- XRA A (R220). -/
def execXraA (s : State) : Answer := performSeq 1 (fun s => aluOn .xra (s.operand (.reg .a)) s) s

/-- ORA B (R223). -/
def execOraB (s : State) : Answer := performSeq 1 (fun s => aluOn .ora (s.operand (.reg .b)) s) s

/-- ORA C (R223). -/
def execOraC (s : State) : Answer := performSeq 1 (fun s => aluOn .ora (s.operand (.reg .c)) s) s

/-- ORA D (R223). -/
def execOraD (s : State) : Answer := performSeq 1 (fun s => aluOn .ora (s.operand (.reg .d)) s) s

/-- ORA E (R223). -/
def execOraE (s : State) : Answer := performSeq 1 (fun s => aluOn .ora (s.operand (.reg .e)) s) s

/-- ORA H (R223). -/
def execOraH (s : State) : Answer := performSeq 1 (fun s => aluOn .ora (s.operand (.reg .h)) s) s

/-- ORA L (R223). -/
def execOraL (s : State) : Answer := performSeq 1 (fun s => aluOn .ora (s.operand (.reg .l)) s) s

/-- ORA M (R224). -/
def execOraM (s : State) : Answer := performSeq 1 (fun s => aluOn .ora (s.operand .m) s) s

/-- ORA A (R223). -/
def execOraA (s : State) : Answer := performSeq 1 (fun s => aluOn .ora (s.operand (.reg .a)) s) s

/-- CMP B (R226). -/
def execCmpB (s : State) : Answer := performSeq 1 (fun s => aluOn .cmp (s.operand (.reg .b)) s) s

/-- CMP C (R226). -/
def execCmpC (s : State) : Answer := performSeq 1 (fun s => aluOn .cmp (s.operand (.reg .c)) s) s

/-- CMP D (R226). -/
def execCmpD (s : State) : Answer := performSeq 1 (fun s => aluOn .cmp (s.operand (.reg .d)) s) s

/-- CMP E (R226). -/
def execCmpE (s : State) : Answer := performSeq 1 (fun s => aluOn .cmp (s.operand (.reg .e)) s) s

/-- CMP H (R226). -/
def execCmpH (s : State) : Answer := performSeq 1 (fun s => aluOn .cmp (s.operand (.reg .h)) s) s

/-- CMP L (R226). -/
def execCmpL (s : State) : Answer := performSeq 1 (fun s => aluOn .cmp (s.operand (.reg .l)) s) s

/-- CMP M (R227). -/
def execCmpM (s : State) : Answer := performSeq 1 (fun s => aluOn .cmp (s.operand .m) s) s

/-- CMP A (R226). -/
def execCmpA (s : State) : Answer := performSeq 1 (fun s => aluOn .cmp (s.operand (.reg .a)) s) s

/-- ADI d8 (R207). -/
def execAdi (d : Byte) (s : State) : Answer := performSeq 2 (fun s => aluOn .add d s) s

/-- ACI d8 (R210). -/
def execAci (d : Byte) (s : State) : Answer := performSeq 2 (fun s => aluOn .adc d s) s

/-- SUI d8 (R213). -/
def execSui (d : Byte) (s : State) : Answer := performSeq 2 (fun s => aluOn .sub d s) s

/-- SBI d8 (R216). -/
def execSbi (d : Byte) (s : State) : Answer := performSeq 2 (fun s => aluOn .sbb d s) s

/-- ANI d8 (R219). -/
def execAni (d : Byte) (s : State) : Answer := performSeq 2 (fun s => aluOn .ana d s) s

/-- XRI d8 (R222). -/
def execXri (d : Byte) (s : State) : Answer := performSeq 2 (fun s => aluOn .xra d s) s

/-- ORI d8 (R225). -/
def execOri (d : Byte) (s : State) : Answer := performSeq 2 (fun s => aluOn .ora d s) s

/-- CPI d8 (R228). -/
def execCpi (d : Byte) (s : State) : Answer := performSeq 2 (fun s => aluOn .cmp d s) s

end Sys2Proof.Machine
end

