-- ==== Sys2Proof/Machine/Control.lean ====
section
/-! DEFINITION. Control transfer (`42_control_transfer.md` R250 to R285). No instruction here writes a flag. -/

namespace Sys2Proof.Machine

/-- `pc <- a16` (R253). -/
def jumpTo (t : Word) (s : State) : State × NextPc := (s, .target t)

/-- CALL and RST (R252, R263, R283): push `trunc_16(pc + len)`, then `pc <- t`. -/
def callTo (len : Nat) (t : Word) (s : State) : State × NextPc :=
  (push16 (s.pc + BitVec.ofNat 16 len) s, .target t)

/-- RET (R273): pop the target. -/
def returnTop (s : State) : State × NextPc := (dropTop s, .target (stackTop s))

/-- PCHL (R284): `pc <- HL`. -/
def jumpHl (s : State) : State × NextPc := (s, .target s.hl)

/-- A conditional form (R251): the unconditional operation when the condition holds on the flags at the start, else
`Seq` with nothing changed. -/
def whenCond (test : Cond) (taken : State → State × NextPc) (s : State) : State × NextPc :=
  if condHolds s.flags test then taken s else (s, .seq)

/-- RNZ (R275). -/
def execRnz (s : State) : Answer := perform 1 (whenCond .nz returnTop) s

/-- JNZ a16 (R255). -/
def execJnz (t : Word) (s : State) : Answer := perform 3 (whenCond .nz (jumpTo t)) s

/-- JMP a16 (R253). -/
def execJmp (t : Word) (s : State) : Answer := perform 3 (jumpTo t) s

/-- CNZ a16 (R265). -/
def execCnz (t : Word) (s : State) : Answer := perform 3 (whenCond .nz (callTo 3 t)) s

/-- RST 0 (R283): to 8 * 0 (R98). -/
def execRst0 (s : State) : Answer := perform 1 (callTo 1 0x0000) s

/-- RZ (R276). -/
def execRz (s : State) : Answer := perform 1 (whenCond .z returnTop) s

/-- RET (R273). -/
def execRet (s : State) : Answer := perform 1 returnTop s

/-- JZ a16 (R256). -/
def execJz (t : Word) (s : State) : Answer := perform 3 (whenCond .z (jumpTo t)) s

/-- CZ a16 (R266). -/
def execCz (t : Word) (s : State) : Answer := perform 3 (whenCond .z (callTo 3 t)) s

/-- CALL a16 (R263). -/
def execCall (t : Word) (s : State) : Answer := perform 3 (callTo 3 t) s

/-- RST 1 (R283): to 8 * 1 (R98). -/
def execRst1 (s : State) : Answer := perform 1 (callTo 1 0x0008) s

/-- RNC (R277). -/
def execRnc (s : State) : Answer := perform 1 (whenCond .nc returnTop) s

/-- JNC a16 (R257). -/
def execJnc (t : Word) (s : State) : Answer := perform 3 (whenCond .nc (jumpTo t)) s

/-- CNC a16 (R267). -/
def execCnc (t : Word) (s : State) : Answer := perform 3 (whenCond .nc (callTo 3 t)) s

/-- RST 2 (R283): to 8 * 2 (R98). -/
def execRst2 (s : State) : Answer := perform 1 (callTo 1 0x0010) s

/-- RC (R278). -/
def execRc (s : State) : Answer := perform 1 (whenCond .c returnTop) s

/-- JC a16 (R258). -/
def execJc (t : Word) (s : State) : Answer := perform 3 (whenCond .c (jumpTo t)) s

/-- CC a16 (R268). -/
def execCc (t : Word) (s : State) : Answer := perform 3 (whenCond .c (callTo 3 t)) s

/-- RST 3 (R283): to 8 * 3 (R98). -/
def execRst3 (s : State) : Answer := perform 1 (callTo 1 0x0018) s

/-- RPO (R279). -/
def execRpo (s : State) : Answer := perform 1 (whenCond .po returnTop) s

/-- JPO a16 (R259). -/
def execJpo (t : Word) (s : State) : Answer := perform 3 (whenCond .po (jumpTo t)) s

/-- CPO a16 (R269). -/
def execCpo (t : Word) (s : State) : Answer := perform 3 (whenCond .po (callTo 3 t)) s

/-- RST 4 (R283): to 8 * 4 (R98). -/
def execRst4 (s : State) : Answer := perform 1 (callTo 1 0x0020) s

/-- RPE (R280). -/
def execRpe (s : State) : Answer := perform 1 (whenCond .pe returnTop) s

/-- PCHL (R284). -/
def execPchl (s : State) : Answer := perform 1 jumpHl s

/-- JPE a16 (R260). -/
def execJpe (t : Word) (s : State) : Answer := perform 3 (whenCond .pe (jumpTo t)) s

/-- CPE a16 (R270). -/
def execCpe (t : Word) (s : State) : Answer := perform 3 (whenCond .pe (callTo 3 t)) s

/-- RST 5 (R283): to 8 * 5 (R98). -/
def execRst5 (s : State) : Answer := perform 1 (callTo 1 0x0028) s

/-- RP (R281). -/
def execRp (s : State) : Answer := perform 1 (whenCond .p returnTop) s

/-- JP a16 (R261). -/
def execJp (t : Word) (s : State) : Answer := perform 3 (whenCond .p (jumpTo t)) s

/-- CP a16 (R271). -/
def execCp (t : Word) (s : State) : Answer := perform 3 (whenCond .p (callTo 3 t)) s

/-- RST 6 (R283): to 8 * 6 (R98). -/
def execRst6 (s : State) : Answer := perform 1 (callTo 1 0x0030) s

/-- RM (R282). -/
def execRm (s : State) : Answer := perform 1 (whenCond .m returnTop) s

/-- JM a16 (R262). -/
def execJm (t : Word) (s : State) : Answer := perform 3 (whenCond .m (jumpTo t)) s

/-- CM a16 (R272). -/
def execCm (t : Word) (s : State) : Answer := perform 3 (whenCond .m (callTo 3 t)) s

/-- RST 7 (R283): to 8 * 7 (R98). -/
def execRst7 (s : State) : Answer := perform 1 (callTo 1 0x0038) s

end Sys2Proof.Machine
end

