-- ==== Sys2Proof/Machine/IncDec.lean ====
section
/-! DEFINITION. Increment, decrement and 16-bit add (`45_inc_dec_dad.md` R350 to R359). -/

namespace Sys2Proof.Machine

/-- INR (R353, R354): `reg <- trunc_8(v + 1)`, all flags but CY. -/
def incOperand (o : Operand) (s : State) : State :=
  { s.setOperand o (s.operand o + 1) with flags := incFlags (s.operand o) s.flags }

/-- DCR (R355, R356): `reg <- trunc_8(v - 1)`, all flags but CY. -/
def decOperand (o : Operand) (s : State) : State :=
  { s.setOperand o (s.operand o - 1) with flags := decFlags (s.operand o) s.flags }

/-- DAD (R359): HL <- HL + pair modulo 2^16, CY the carry out of bit 15. -/
def addToHl (p : Pair) (s : State) : State :=
  { s.setPair .hl (BitVec.ofNat 16 (dadExact s.hl (s.pair p))) with flags := dadFlags s.hl (s.pair p) s.flags }

/-- INX B (R357). -/
def execInxB (s : State) : Answer := performSeq 1 (fun s => s.setPair .bc (s.pair .bc + 1)) s

/-- INR B (R353). -/
def execInrB (s : State) : Answer := performSeq 1 (incOperand (.reg .b)) s

/-- DCR B (R355). -/
def execDcrB (s : State) : Answer := performSeq 1 (decOperand (.reg .b)) s

/-- DAD B (R359). -/
def execDadB (s : State) : Answer := performSeq 1 (addToHl .bc) s

/-- DCX B (R358). -/
def execDcxB (s : State) : Answer := performSeq 1 (fun s => s.setPair .bc (s.pair .bc - 1)) s

/-- INR C (R353). -/
def execInrC (s : State) : Answer := performSeq 1 (incOperand (.reg .c)) s

/-- DCR C (R355). -/
def execDcrC (s : State) : Answer := performSeq 1 (decOperand (.reg .c)) s

/-- INX D (R357). -/
def execInxD (s : State) : Answer := performSeq 1 (fun s => s.setPair .de (s.pair .de + 1)) s

/-- INR D (R353). -/
def execInrD (s : State) : Answer := performSeq 1 (incOperand (.reg .d)) s

/-- DCR D (R355). -/
def execDcrD (s : State) : Answer := performSeq 1 (decOperand (.reg .d)) s

/-- DAD D (R359). -/
def execDadD (s : State) : Answer := performSeq 1 (addToHl .de) s

/-- DCX D (R358). -/
def execDcxD (s : State) : Answer := performSeq 1 (fun s => s.setPair .de (s.pair .de - 1)) s

/-- INR E (R353). -/
def execInrE (s : State) : Answer := performSeq 1 (incOperand (.reg .e)) s

/-- DCR E (R355). -/
def execDcrE (s : State) : Answer := performSeq 1 (decOperand (.reg .e)) s

/-- INX H (R357). -/
def execInxH (s : State) : Answer := performSeq 1 (fun s => s.setPair .hl (s.pair .hl + 1)) s

/-- INR H (R353). -/
def execInrH (s : State) : Answer := performSeq 1 (incOperand (.reg .h)) s

/-- DCR H (R355). -/
def execDcrH (s : State) : Answer := performSeq 1 (decOperand (.reg .h)) s

/-- DAD H (R359). -/
def execDadH (s : State) : Answer := performSeq 1 (addToHl .hl) s

/-- DCX H (R358). -/
def execDcxH (s : State) : Answer := performSeq 1 (fun s => s.setPair .hl (s.pair .hl - 1)) s

/-- INR L (R353). -/
def execInrL (s : State) : Answer := performSeq 1 (incOperand (.reg .l)) s

/-- DCR L (R355). -/
def execDcrL (s : State) : Answer := performSeq 1 (decOperand (.reg .l)) s

/-- INX SP (R357). -/
def execInxSP (s : State) : Answer := performSeq 1 (fun s => s.setPair .sp (s.pair .sp + 1)) s

/-- INR M (R354). -/
def execInrM (s : State) : Answer := performSeq 1 (incOperand .m) s

/-- DCR M (R356). -/
def execDcrM (s : State) : Answer := performSeq 1 (decOperand .m) s

/-- DAD SP (R359). -/
def execDadSP (s : State) : Answer := performSeq 1 (addToHl .sp) s

/-- DCX SP (R358). -/
def execDcxSP (s : State) : Answer := performSeq 1 (fun s => s.setPair .sp (s.pair .sp - 1)) s

/-- INR A (R353). -/
def execInrA (s : State) : Answer := performSeq 1 (incOperand (.reg .a)) s

/-- DCR A (R355). -/
def execDcrA (s : State) : Answer := performSeq 1 (decOperand (.reg .a)) s

end Sys2Proof.Machine
end

