-- ==== Sys2Proof/Machine/MachineIo.lean ====
section
/-! DEFINITION. Machine control and I/O (`47_machine_io.md` R390 to R395), and the meaning of an illegal byte (R101). -/

namespace Sys2Proof.Machine

/-- EI and DI (R392, R393): the value holds from the end of the step (D23). -/
def setInte (v : Bool) (s : State) : State := { s with inte := v }

/-- OUT (R394): the latch takes A; the port number is read and ignored (D5). -/
def outputA (_port : Byte) (s : State) : State := { s with outLatch := s.a }

/-- IN (R395): A takes the next byte of the INPUT oracle, a free value (D4); the count of IN steps advances, so
another IN may read another byte. -/
def inputA (port : Byte) (s : State) : State :=
  { s with a := Config.input s.inCount port, inCount := s.inCount + 1 }

/-- NOP (R390). -/
def execNop (s : State) : Answer := performSeq 1 id s

/-- HLT (R391). -/
def execHlt (s : State) : Answer := perform 1 (fun s => (s, .halt)) s

/-- OUT p8 (R394). -/
def execOutP8 (p : Byte) (s : State) : Answer := performSeq 2 (outputA p) s

/-- IN p8 (R395). -/
def execInP8 (p : Byte) (s : State) : Answer := performSeq 2 (inputA p) s

/-- DI (R393). -/
def execDi (s : State) : Answer := performSeq 1 (setInte false) s

/-- EI (R392). -/
def execEi (s : State) : Answer := performSeq 1 (setInte true) s

/-- ILLEGAL (R101, R133, R500): the decode fault. -/
def execIllegal (op : Byte) (s : State) : Answer := performIllegal op s

end Sys2Proof.Machine
end

