-- ==== Sys2Proof/Machine/Rotate.lean ====
section
/-! DEFINITION. Rotates, decimal adjust, complement and carry control (`46_rotate_decimal_flags.md` R370 to R379). -/

namespace Sys2Proof.Machine

/-- A carry as the low bit of a byte. -/
def bitLow (carry : Bool) : Byte := (BitVec.ofBool carry).setWidth 8

/-- Writing A and CY only, as a rotate does (R370). -/
def setACarry (v : Byte) (carry : Bool) (s : State) : State :=
  { s with a := v, flags := { s.flags with cy := carry } }

/-- RLC (R371). -/
def rotateLeft (s : State) : State :=
  setACarry ((s.a <<< 1) ||| bitLow (s.a.getLsbD 7)) (s.a.getLsbD 7) s

/-- RRC (R372). -/
def rotateRight (s : State) : State :=
  setACarry ((s.a >>> 1) ||| (bitLow (s.a.getLsbD 0) <<< 7)) (s.a.getLsbD 0) s

/-- RAL (R373). -/
def rotateLeftCarry (s : State) : State :=
  setACarry ((s.a <<< 1) ||| bitLow s.flags.cy) (s.a.getLsbD 7) s

/-- RAR (R374). -/
def rotateRightCarry (s : State) : State :=
  setACarry ((s.a >>> 1) ||| (bitLow s.flags.cy <<< 7)) (s.a.getLsbD 0) s

/-- DAA (R375). -/
def decimalAdjust (s : State) : State :=
  { s with a := daaResult s.a s.flags, flags := daaFlags s.a s.flags }

/-- CMA (R377): no flag is written. -/
def complementA (s : State) : State := { s with a := ~~~ s.a }

/-- STC (R378). -/
def setCarry (s : State) : State := { s with flags := { s.flags with cy := true } }

/-- CMC (R379). -/
def complementCarry (s : State) : State := { s with flags := { s.flags with cy := !s.flags.cy } }

/-- RLC (R371). -/
def execRlc (s : State) : Answer := performSeq 1 rotateLeft s

/-- RRC (R372). -/
def execRrc (s : State) : Answer := performSeq 1 rotateRight s

/-- RAL (R373). -/
def execRal (s : State) : Answer := performSeq 1 rotateLeftCarry s

/-- RAR (R374). -/
def execRar (s : State) : Answer := performSeq 1 rotateRightCarry s

/-- DAA (R375). -/
def execDaa (s : State) : Answer := performSeq 1 decimalAdjust s

/-- CMA (R377). -/
def execCma (s : State) : Answer := performSeq 1 complementA s

/-- STC (R378). -/
def execStc (s : State) : Answer := performSeq 1 setCarry s

/-- CMC (R379). -/
def execCmc (s : State) : Answer := performSeq 1 complementCarry s

end Sys2Proof.Machine
end

