-- ==== Sys2Proof/Machine/Stack.lean ====
section
/-! DEFINITION. Stack operations (`43_stack.md` R300 to R310). -/

namespace Sys2Proof.Machine

/-- PUSH of a pair in the PSW context (R301 to R303). -/
def pushPair (p : StackPair) (s : State) : State := push16 (s.stackPair p) s

/-- POP to a pair in the PSW context (R301, R304, R305). -/
def popPair (p : StackPair) (s : State) : State := (dropTop s).setStackPair p (stackTop s)

/-- XTHL (R306): both reads before both writes; L with the byte at SP, H with the byte at SP+1; SP unchanged. -/
def exchangeTop (s : State) : State :=
  let lo := s.memRead s.sp
  let hi := s.memRead (s.sp + 1)
  let s1 := (s.memWrite s.sp s.l).memWrite (s.sp + 1) s.h
  { s1 with l := lo, h := hi }

/-- SPHL (R307). -/
def spFromHl (s : State) : State := { s with sp := s.hl }

/-- POP B (R304). -/
def execPopB (s : State) : Answer := performSeq 1 (popPair .bc) s

/-- PUSH B (R302). -/
def execPushB (s : State) : Answer := performSeq 1 (pushPair .bc) s

/-- POP D (R304). -/
def execPopD (s : State) : Answer := performSeq 1 (popPair .de) s

/-- PUSH D (R302). -/
def execPushD (s : State) : Answer := performSeq 1 (pushPair .de) s

/-- POP H (R304). -/
def execPopH (s : State) : Answer := performSeq 1 (popPair .hl) s

/-- XTHL (R306). -/
def execXthl (s : State) : Answer := performSeq 1 exchangeTop s

/-- PUSH H (R302). -/
def execPushH (s : State) : Answer := performSeq 1 (pushPair .hl) s

/-- POP PSW (R305). -/
def execPopPSW (s : State) : Answer := performSeq 1 (popPair .psw) s

/-- PUSH PSW (R303). -/
def execPushPSW (s : State) : Answer := performSeq 1 (pushPair .psw) s

/-- SPHL (R307). -/
def execSphl (s : State) : Answer := performSeq 1 spFromHl s

end Sys2Proof.Machine
end

