-- ==== Sys2Proof/Machine/Transfer.lean ====
section
/-! DEFINITION. Data transfer (`44_data_transfer.md` R320 to R333). No instruction here reads or writes a flag. -/

namespace Sys2Proof.Machine

/-- `A <- MemRead(addr, 1)` (R326, R330). -/
def loadA (addr : Word) (s : State) : State := { s with a := s.memRead addr }

/-- `MemWrite(addr, 1, A)` (R327, R331). -/
def storeA (addr : Word) (s : State) : State := s.memWrite addr s.a

/-- LHLD (R328): L from the address, H from the address + 1. -/
def loadHl (addr : Word) (s : State) : State :=
  { s with l := s.memRead addr, h := s.memRead (addr + 1) }

/-- SHLD (R329): L to the address, H to the address + 1. -/
def storeHl (addr : Word) (s : State) : State := (s.memWrite addr s.l).memWrite (addr + 1) s.h

/-- XCHG (R332): H with D, L with E. -/
def exchangeDeHl (s : State) : State := { s with h := s.d, l := s.e, d := s.h, e := s.l }

/-- LXI B,d16 (R325). -/
def execLxiB (v : Word) (s : State) : Answer := performSeq 3 (fun s => s.setPair .bc v) s

/-- STAX B (R331). -/
def execStaxB (s : State) : Answer := performSeq 1 (fun s => storeA (s.pair .bc) s) s

/-- MVI B,d8 (R323). -/
def execMviB (d : Byte) (s : State) : Answer := performSeq 2 (fun s => s.setOperand (.reg .b) d) s

/-- LDAX B (R330). -/
def execLdaxB (s : State) : Answer := performSeq 1 (fun s => loadA (s.pair .bc) s) s

/-- MVI C,d8 (R323). -/
def execMviC (d : Byte) (s : State) : Answer := performSeq 2 (fun s => s.setOperand (.reg .c) d) s

/-- LXI D,d16 (R325). -/
def execLxiD (v : Word) (s : State) : Answer := performSeq 3 (fun s => s.setPair .de v) s

/-- STAX D (R331). -/
def execStaxD (s : State) : Answer := performSeq 1 (fun s => storeA (s.pair .de) s) s

/-- MVI D,d8 (R323). -/
def execMviD (d : Byte) (s : State) : Answer := performSeq 2 (fun s => s.setOperand (.reg .d) d) s

/-- LDAX D (R330). -/
def execLdaxD (s : State) : Answer := performSeq 1 (fun s => loadA (s.pair .de) s) s

/-- MVI E,d8 (R323). -/
def execMviE (d : Byte) (s : State) : Answer := performSeq 2 (fun s => s.setOperand (.reg .e) d) s

/-- LXI H,d16 (R325). -/
def execLxiH (v : Word) (s : State) : Answer := performSeq 3 (fun s => s.setPair .hl v) s

/-- SHLD a16 (R329). -/
def execShld (t : Word) (s : State) : Answer := performSeq 3 (storeHl t) s

/-- MVI H,d8 (R323). -/
def execMviH (d : Byte) (s : State) : Answer := performSeq 2 (fun s => s.setOperand (.reg .h) d) s

/-- LHLD a16 (R328). -/
def execLhld (t : Word) (s : State) : Answer := performSeq 3 (loadHl t) s

/-- MVI L,d8 (R323). -/
def execMviL (d : Byte) (s : State) : Answer := performSeq 2 (fun s => s.setOperand (.reg .l) d) s

/-- LXI SP,d16 (R325). -/
def execLxiSP (v : Word) (s : State) : Answer := performSeq 3 (fun s => s.setPair .sp v) s

/-- STA a16 (R327). -/
def execSta (t : Word) (s : State) : Answer := performSeq 3 (storeA t) s

/-- MVI M,d8 (R324). -/
def execMviM (d : Byte) (s : State) : Answer := performSeq 2 (fun s => s.setOperand .m d) s

/-- LDA a16 (R326). -/
def execLda (t : Word) (s : State) : Answer := performSeq 3 (loadA t) s

/-- MVI A,d8 (R323). -/
def execMviA (d : Byte) (s : State) : Answer := performSeq 2 (fun s => s.setOperand (.reg .a) d) s

/-- MOV B,B (R320). -/
def execMovBB (s : State) : Answer := performSeq 1 (fun s => s.setOperand (.reg .b) (s.operand (.reg .b))) s

/-- MOV B,C (R320). -/
def execMovBC (s : State) : Answer := performSeq 1 (fun s => s.setOperand (.reg .b) (s.operand (.reg .c))) s

/-- MOV B,D (R320). -/
def execMovBD (s : State) : Answer := performSeq 1 (fun s => s.setOperand (.reg .b) (s.operand (.reg .d))) s

/-- MOV B,E (R320). -/
def execMovBE (s : State) : Answer := performSeq 1 (fun s => s.setOperand (.reg .b) (s.operand (.reg .e))) s

/-- MOV B,H (R320). -/
def execMovBH (s : State) : Answer := performSeq 1 (fun s => s.setOperand (.reg .b) (s.operand (.reg .h))) s

/-- MOV B,L (R320). -/
def execMovBL (s : State) : Answer := performSeq 1 (fun s => s.setOperand (.reg .b) (s.operand (.reg .l))) s

/-- MOV B,M (R321). -/
def execMovBM (s : State) : Answer := performSeq 1 (fun s => s.setOperand (.reg .b) (s.operand .m)) s

/-- MOV B,A (R320). -/
def execMovBA (s : State) : Answer := performSeq 1 (fun s => s.setOperand (.reg .b) (s.operand (.reg .a))) s

/-- MOV C,B (R320). -/
def execMovCB (s : State) : Answer := performSeq 1 (fun s => s.setOperand (.reg .c) (s.operand (.reg .b))) s

/-- MOV C,C (R320). -/
def execMovCC (s : State) : Answer := performSeq 1 (fun s => s.setOperand (.reg .c) (s.operand (.reg .c))) s

/-- MOV C,D (R320). -/
def execMovCD (s : State) : Answer := performSeq 1 (fun s => s.setOperand (.reg .c) (s.operand (.reg .d))) s

/-- MOV C,E (R320). -/
def execMovCE (s : State) : Answer := performSeq 1 (fun s => s.setOperand (.reg .c) (s.operand (.reg .e))) s

/-- MOV C,H (R320). -/
def execMovCH (s : State) : Answer := performSeq 1 (fun s => s.setOperand (.reg .c) (s.operand (.reg .h))) s

/-- MOV C,L (R320). -/
def execMovCL (s : State) : Answer := performSeq 1 (fun s => s.setOperand (.reg .c) (s.operand (.reg .l))) s

/-- MOV C,M (R321). -/
def execMovCM (s : State) : Answer := performSeq 1 (fun s => s.setOperand (.reg .c) (s.operand .m)) s

/-- MOV C,A (R320). -/
def execMovCA (s : State) : Answer := performSeq 1 (fun s => s.setOperand (.reg .c) (s.operand (.reg .a))) s

/-- MOV D,B (R320). -/
def execMovDB (s : State) : Answer := performSeq 1 (fun s => s.setOperand (.reg .d) (s.operand (.reg .b))) s

/-- MOV D,C (R320). -/
def execMovDC (s : State) : Answer := performSeq 1 (fun s => s.setOperand (.reg .d) (s.operand (.reg .c))) s

/-- MOV D,D (R320). -/
def execMovDD (s : State) : Answer := performSeq 1 (fun s => s.setOperand (.reg .d) (s.operand (.reg .d))) s

/-- MOV D,E (R320). -/
def execMovDE (s : State) : Answer := performSeq 1 (fun s => s.setOperand (.reg .d) (s.operand (.reg .e))) s

/-- MOV D,H (R320). -/
def execMovDH (s : State) : Answer := performSeq 1 (fun s => s.setOperand (.reg .d) (s.operand (.reg .h))) s

/-- MOV D,L (R320). -/
def execMovDL (s : State) : Answer := performSeq 1 (fun s => s.setOperand (.reg .d) (s.operand (.reg .l))) s

/-- MOV D,M (R321). -/
def execMovDM (s : State) : Answer := performSeq 1 (fun s => s.setOperand (.reg .d) (s.operand .m)) s

/-- MOV D,A (R320). -/
def execMovDA (s : State) : Answer := performSeq 1 (fun s => s.setOperand (.reg .d) (s.operand (.reg .a))) s

/-- MOV E,B (R320). -/
def execMovEB (s : State) : Answer := performSeq 1 (fun s => s.setOperand (.reg .e) (s.operand (.reg .b))) s

/-- MOV E,C (R320). -/
def execMovEC (s : State) : Answer := performSeq 1 (fun s => s.setOperand (.reg .e) (s.operand (.reg .c))) s

/-- MOV E,D (R320). -/
def execMovED (s : State) : Answer := performSeq 1 (fun s => s.setOperand (.reg .e) (s.operand (.reg .d))) s

/-- MOV E,E (R320). -/
def execMovEE (s : State) : Answer := performSeq 1 (fun s => s.setOperand (.reg .e) (s.operand (.reg .e))) s

/-- MOV E,H (R320). -/
def execMovEH (s : State) : Answer := performSeq 1 (fun s => s.setOperand (.reg .e) (s.operand (.reg .h))) s

/-- MOV E,L (R320). -/
def execMovEL (s : State) : Answer := performSeq 1 (fun s => s.setOperand (.reg .e) (s.operand (.reg .l))) s

/-- MOV E,M (R321). -/
def execMovEM (s : State) : Answer := performSeq 1 (fun s => s.setOperand (.reg .e) (s.operand .m)) s

/-- MOV E,A (R320). -/
def execMovEA (s : State) : Answer := performSeq 1 (fun s => s.setOperand (.reg .e) (s.operand (.reg .a))) s

/-- MOV H,B (R320). -/
def execMovHB (s : State) : Answer := performSeq 1 (fun s => s.setOperand (.reg .h) (s.operand (.reg .b))) s

/-- MOV H,C (R320). -/
def execMovHC (s : State) : Answer := performSeq 1 (fun s => s.setOperand (.reg .h) (s.operand (.reg .c))) s

/-- MOV H,D (R320). -/
def execMovHD (s : State) : Answer := performSeq 1 (fun s => s.setOperand (.reg .h) (s.operand (.reg .d))) s

/-- MOV H,E (R320). -/
def execMovHE (s : State) : Answer := performSeq 1 (fun s => s.setOperand (.reg .h) (s.operand (.reg .e))) s

/-- MOV H,H (R320). -/
def execMovHH (s : State) : Answer := performSeq 1 (fun s => s.setOperand (.reg .h) (s.operand (.reg .h))) s

/-- MOV H,L (R320). -/
def execMovHL (s : State) : Answer := performSeq 1 (fun s => s.setOperand (.reg .h) (s.operand (.reg .l))) s

/-- MOV H,M (R321). -/
def execMovHM (s : State) : Answer := performSeq 1 (fun s => s.setOperand (.reg .h) (s.operand .m)) s

/-- MOV H,A (R320). -/
def execMovHA (s : State) : Answer := performSeq 1 (fun s => s.setOperand (.reg .h) (s.operand (.reg .a))) s

/-- MOV L,B (R320). -/
def execMovLB (s : State) : Answer := performSeq 1 (fun s => s.setOperand (.reg .l) (s.operand (.reg .b))) s

/-- MOV L,C (R320). -/
def execMovLC (s : State) : Answer := performSeq 1 (fun s => s.setOperand (.reg .l) (s.operand (.reg .c))) s

/-- MOV L,D (R320). -/
def execMovLD (s : State) : Answer := performSeq 1 (fun s => s.setOperand (.reg .l) (s.operand (.reg .d))) s

/-- MOV L,E (R320). -/
def execMovLE (s : State) : Answer := performSeq 1 (fun s => s.setOperand (.reg .l) (s.operand (.reg .e))) s

/-- MOV L,H (R320). -/
def execMovLH (s : State) : Answer := performSeq 1 (fun s => s.setOperand (.reg .l) (s.operand (.reg .h))) s

/-- MOV L,L (R320). -/
def execMovLL (s : State) : Answer := performSeq 1 (fun s => s.setOperand (.reg .l) (s.operand (.reg .l))) s

/-- MOV L,M (R321). -/
def execMovLM (s : State) : Answer := performSeq 1 (fun s => s.setOperand (.reg .l) (s.operand .m)) s

/-- MOV L,A (R320). -/
def execMovLA (s : State) : Answer := performSeq 1 (fun s => s.setOperand (.reg .l) (s.operand (.reg .a))) s

/-- MOV M,B (R322). -/
def execMovMB (s : State) : Answer := performSeq 1 (fun s => s.setOperand .m (s.operand (.reg .b))) s

/-- MOV M,C (R322). -/
def execMovMC (s : State) : Answer := performSeq 1 (fun s => s.setOperand .m (s.operand (.reg .c))) s

/-- MOV M,D (R322). -/
def execMovMD (s : State) : Answer := performSeq 1 (fun s => s.setOperand .m (s.operand (.reg .d))) s

/-- MOV M,E (R322). -/
def execMovME (s : State) : Answer := performSeq 1 (fun s => s.setOperand .m (s.operand (.reg .e))) s

/-- MOV M,H (R322). -/
def execMovMH (s : State) : Answer := performSeq 1 (fun s => s.setOperand .m (s.operand (.reg .h))) s

/-- MOV M,L (R322). -/
def execMovML (s : State) : Answer := performSeq 1 (fun s => s.setOperand .m (s.operand (.reg .l))) s

/-- MOV M,A (R322). -/
def execMovMA (s : State) : Answer := performSeq 1 (fun s => s.setOperand .m (s.operand (.reg .a))) s

/-- MOV A,B (R320). -/
def execMovAB (s : State) : Answer := performSeq 1 (fun s => s.setOperand (.reg .a) (s.operand (.reg .b))) s

/-- MOV A,C (R320). -/
def execMovAC (s : State) : Answer := performSeq 1 (fun s => s.setOperand (.reg .a) (s.operand (.reg .c))) s

/-- MOV A,D (R320). -/
def execMovAD (s : State) : Answer := performSeq 1 (fun s => s.setOperand (.reg .a) (s.operand (.reg .d))) s

/-- MOV A,E (R320). -/
def execMovAE (s : State) : Answer := performSeq 1 (fun s => s.setOperand (.reg .a) (s.operand (.reg .e))) s

/-- MOV A,H (R320). -/
def execMovAH (s : State) : Answer := performSeq 1 (fun s => s.setOperand (.reg .a) (s.operand (.reg .h))) s

/-- MOV A,L (R320). -/
def execMovAL (s : State) : Answer := performSeq 1 (fun s => s.setOperand (.reg .a) (s.operand (.reg .l))) s

/-- MOV A,M (R321). -/
def execMovAM (s : State) : Answer := performSeq 1 (fun s => s.setOperand (.reg .a) (s.operand .m)) s

/-- MOV A,A (R320). -/
def execMovAA (s : State) : Answer := performSeq 1 (fun s => s.setOperand (.reg .a) (s.operand (.reg .a))) s

/-- XCHG (R332). -/
def execXchg (s : State) : Answer := performSeq 1 exchangeDeHl s

end Sys2Proof.Machine
end

