-- ==== Sys2Proof/Machine/Step.lean ====
section
/-! DEFINITION. The step (`40_execution_cycle.md` R130 to R139). -/

namespace Sys2Proof.Machine

/-- One step (R139): a stopped processor changes nothing (R131); else the instruction at PC is fetched, decoded and
run. An illegal byte, an instruction that extends past 0xFFFF and the PC update are part of the meanings
(`performIllegal`, `perform`). -/
def step (s : State) : Host.Outcome State Fault Refusal :=
  match isRunning s with
  | true => exec (fetchInstr s) s
  | false => .next s

/-- The state `s` with the instruction whose bits are `w` stored at PC (its three bytes at PC, PC+1 and PC+2, the bits
at or above `nbits` being 0) and the processor running, so that the next step runs it. It stands for the loading of a
program from outside the machine (R600; log entry 5). -/
def State.withFetchWord (s : State) (nbits w : Nat) : State :=
  let s1 := s.memWrite s.pc (tableByte nbits w 0)
  let s2 := s1.memWrite (s.pc + 1) (tableByte nbits w 1)
  let s3 := s2.memWrite (s.pc + 2) (tableByte nbits w 2)
  { s3 with stop := .running }

end Sys2Proof.Machine
end

