-- ==== Sys2Proof/Machine/HostInterface.lean ====
section
/-! DEFINITION. The host operations (`40_execution_cycle.md` R150 to R158), construction and reset
(`70_reset_and_hazards.md` R600 to R604). The host acts only between steps. -/

namespace Sys2Proof.Machine

/-! Construction. -/

/-- Why no processor is built (R504): not an event of a step. -/
inductive LoadFailure where
  | unreadableFile
  | imageTooLong
  deriving DecidableEq, Repr

/-- The canonical memory that holds `f a` at the `n` addresses from `lo` on. -/
def Memory.tabulate (f : Nat → Byte) : Nat → Nat → Memory
  | _, 0 => []
  | lo, n + 1 =>
    if f lo = Config.memInitByte then Memory.tabulate f (lo + 1) n
    else (lo, f lo) :: Memory.tabulate f (lo + 1) n

/-- The byte at address `a` after loading `image` at 0 over `MEM_INIT` (R600). -/
def imageByte (memInit : Nat → Byte) (image : List Byte) (a : Nat) : Byte := image.getD a (memInit a)

/-- "construct from program bytes" (R150, R600), with the OPEN parameters `SP_RESET` (any value
but 0x0000, R7, R50) and `MEM_INIT` as arguments. -/
def constructWith (spReset : Config.SpReset) (memInit : Nat → Byte) (image : List Byte) : Except LoadFailure State :=
  if Config.memorySize < image.length then .error .imageTooLong
  else .ok { State.reset with
    sp := spReset.val
    mem := Memory.tabulate (imageByte memInit image) 0 Config.memorySize }

/-- The canonical memory that holds `image` from address `lo` on. -/
def Memory.ofImage : Nat → List Byte → Memory
  | _, [] => []
  | lo, v :: rest =>
    if v = Config.memInitByte then Memory.ofImage (lo + 1) rest
    else (lo, v) :: Memory.ofImage (lo + 1) rest

/-- Construction with the values of the OPEN parameters that `State.reset` takes (log entries 1 and 2): a fast form of
`constructWith`. -/
def construct (image : List Byte) : Except LoadFailure State :=
  if Config.memorySize < image.length then .error .imageTooLong
  else .ok { State.reset with mem := Memory.ofImage 0 image }

/-- "construct from file path" (R151): `none` is a file that cannot be opened or read. -/
def constructFromFile (spReset : Config.SpReset) (memInit : Nat → Byte) (contents : Option (List Byte)) :
    Except LoadFailure State :=
  match contents with
  | none => .error .unreadableFile
  | some image => constructWith spReset memInit image

/-! Reset. -/

/-- What reset does to STOP (R602): `Halted` becomes `Running`, the other values stay. -/
def resetStop : Stop → Stop
  | .running => .running
  | .halted => .running
  | .endOfAddressSpace => .endOfAddressSpace
  | .faulted k op pc => .faulted k op pc

/-- "reset" (R154, R601) with `SP_RESET` as an argument: memory is untouched, STOP follows R602. The count of IN steps
is the model's own and is kept, so that later IN steps read fresh bytes (log entry 3). -/
def hostResetWith (spReset : Config.SpReset) (s : State) : State :=
  { State.reset with sp := spReset.val, stop := resetStop s.stop, mem := s.mem, inCount := s.inCount }

/-- "reset" with the `SP_RESET` of `State.reset`. -/
def hostReset (s : State) : State := hostResetWith Config.spReset s

/-! Snapshots and memory access. -/

/-- What a snapshot returns (R153). -/
structure Snapshot where
  a : Byte
  b : Byte
  c : Byte
  d : Byte
  e : Byte
  h : Byte
  l : Byte
  flags : Flags
  pc : Word
  sp : Word
  outLatch : Byte
  inte : Bool
  stop : Stop
  deriving DecidableEq, Repr

/-- "read registers / flags / PC / SP / output latch" (R153). -/
def snapshot (s : State) : Snapshot :=
  { a := s.a, b := s.b, c := s.c, d := s.d, e := s.e, h := s.h, l := s.l, flags := s.flags, pc := s.pc, sp := s.sp,
    outLatch := s.outLatch, inte := s.inte, stop := s.stop }

/-- "read a memory byte at address" (R155), whatever the STOP. -/
def hostRead (a : Word) (s : State) : Byte := s.memRead a

/-- "write a memory byte at address" (R155), whatever the STOP. -/
def hostWrite (a : Word) (v : Byte) (s : State) : State := s.memWrite a v

/-! Peek. -/

/-- What the bytes at `a`, `a+1` and `a+2` decode to. -/
def describeAt (s : State) (a : Word) : Decoded :=
  describe (s.memRead a) (s.memRead (a + 1)) (s.memRead (a + 2))

/-- The loop of `peek` (R156) from address `a`: it stops after an illegal byte. -/
def peekFrom (s : State) : Nat → Word → List (Word × Decoded)
  | 0, _ => []
  | k + 1, a =>
    (a, describeAt s a) ::
      if (describeAt s a).isIllegal then []
      else peekFrom s k (a + BitVec.ofNat 16 (describeAt s a).length)

/-- "peek upcoming instructions" (R156): up to `k` instructions of the sequential layout from PC. -/
def peek (k : Nat) (s : State) : List (Word × Decoded) := peekFrom s k s.pc

/-! The controller's view. -/

/-- The state after one step. The other two answers do not occur: every step has a next state
(`Obligations.EveryStepHasANextState`). -/
def stepState (s : State) : State :=
  match step s with
  | .next t => t
  | .fault _ => s
  | .refused _ => s

/-- A constructed processor with its host configuration: the `SP_RESET` it was built with, used at every reset (D10),
and CLOCK_RATE, which is not architectural state (R49); `none` is no throttle. -/
structure Session where
  spReset : Config.SpReset
  clockRate : Option NNRat
  proc : State
  deriving DecidableEq

/-- The host operations of R152 to R157. -/
inductive Request where
  | advance
  | snapshot
  | reset
  | readByte (a : Word)
  | writeByte (a : Word) (v : Byte)
  | peek (k : Nat)
  | setClockRate (rate : NNRat)
  deriving DecidableEq

/-- What the host gets back: STOP from a step (R142), a snapshot, a byte, a listing, or nothing (log entry 8). -/
inductive Reply where
  | stop (v : Stop)
  | snapshot (v : Snapshot)
  | byte (v : Byte)
  | listing (v : List (Word × Decoded))
  | done
  deriving DecidableEq, Repr

/-- Construction of a session (R600): the clock rate is optional. -/
def Session.build (spReset : Config.SpReset) (memInit : Nat → Byte) (image : List Byte) (rate : Option NNRat) :
    Except LoadFailure Session :=
  match constructWith spReset memInit image with
  | .error e => .error e
  | .ok s => .ok { spReset := spReset, clockRate := rate, proc := s }

/-- Whether the host sleeps after a step (R140): a rate is configured and it is above 0. The sleep changes no state. -/
def Session.throttled (x : Session) : Bool :=
  match x.clockRate with
  | none => false
  | some r => decide (0 < r)

/-- One host operation (R130, R158): they are totally ordered, and none runs during a step. -/
def Session.serve (x : Session) : Request → Session × Reply
  | .advance => ({ x with proc := stepState x.proc }, .stop (stepState x.proc).stop)
  | .snapshot => (x, .snapshot (Sys2Proof.Machine.snapshot x.proc))
  | .reset => ({ x with proc := hostResetWith x.spReset x.proc }, .done)
  | .readByte a => (x, .byte (hostRead a x.proc))
  | .writeByte a v => ({ x with proc := hostWrite a v x.proc }, .done)
  | .peek k => (x, .listing (Sys2Proof.Machine.peek k x.proc))
  | .setClockRate rate => ({ x with clockRate := some rate }, .done)

end Sys2Proof.Machine
end

