-- ==== Sys2Proof/Safety.lean ====
section
/-! DEFINITION. The terms that claims about the machine use: the invariants, runs and their ends, what a sequence of
bytes encodes, the next-PC result an instruction yields, and the spec's tables of which instructions write what. -/

namespace Sys2Proof.Machine

/-! Invariants. -/

/-- Memory is in its canonical form (Machine/Ops.lean): equal memories are equal lists, all addresses below 65536. -/
def State.MemoryCanonical (s : State) : Prop := s.mem.wf = true

/-- STOP tells what happened (R500, R502, R503, R506): after a decode fault PC is at the illegal byte that STOP records;
after HLT the byte before PC is 0x76; after the end of the address space PC is one of the last three addresses. -/
def State.StopRecordAccurate (s : State) : Prop :=
  match s.stop with
  | .running => True
  | .halted => s.memRead (s.pc - 1) = 0x76
  | .endOfAddressSpace => 0xFFFD ≤ s.pc.toNat
  | .faulted .decodeFailure op pc => pc = s.pc ∧ op ∈ illegalBytes ∧ s.memRead s.pc = op

/-! Runs (R144). -/

/-- The state after `n` steps. -/
def runSteps : Nat → State → State
  | 0, s => s
  | n + 1, s => runSteps n (stepState s)

/-- The run from `s` ends in `t`: `t` is stopped, and it is reached by steps from running states only (R144). -/
def EndsIn (s t : State) : Prop :=
  ∃ n, runSteps n s = t ∧ t.stop ≠ .running ∧ ∀ k, k < n → (runSteps k s).stop = .running

/-- A safe run: no step of it raises a decode fault. -/
def SafeRun (s : State) : Prop := ∀ n k op pc, (runSteps n s).stop ≠ .faulted k op pc

/-! Vocabulary of the statements. -/

/-- `bytes`, whatever follows them, decode to `i`. -/
def Encodes (bytes : List Byte) (i : Instr) : Prop := ∀ rest, decodeBytes (bytes ++ rest) = i

/-- An instruction of `len` bytes at PC does not extend past 0xFFFF (R134). -/
def State.Fits (s : State) (len : Nat) : Prop := s.pc.toNat + len ≤ 0x10000

/-- PC and STOP from `s` to `t` over an instruction of `len` bytes that yields `Seq`: the length is added to PC; at the
end of the address space PC is kept and STOP tells it (R136, R137). -/
def AdvancesBy (len : Nat) (s t : State) : Prop :=
  (s.pc.toNat + len < 0x10000 → t.pc.toNat = s.pc.toNat + len ∧ t.stop = s.stop) ∧
  (s.pc.toNat + len = 0x10000 → t.pc = s.pc ∧ t.stop = .endOfAddressSpace)

/-- Z, S and P are those of the result byte `r` (R40, R41). -/
def Flags.ZspOf (f : Flags) (r : Byte) : Prop :=
  (f.z = true ↔ r = 0) ∧ (f.s = true ↔ 0x80 ≤ r.toNat) ∧
  (f.p = true ↔ Even ((List.range 8).countP fun k => r.getLsbD k))

/-- Two consecutive bytes at `a`: the low byte of `v` at `a`, the high byte at `a + 1` modulo 2^16; every other byte
of `t` is that of `s` (R64). -/
def StoresWord (s t : State) (a : Word) (v : Word) : Prop :=
  ∀ x : Word, t.memRead x =
    if x = a then v.setWidth 8 else if x = a + 1 then (v >>> 8).setWidth 8 else s.memRead x

/-- The byte at `a` of `t` is `v`, and every other byte is that of `s`. -/
def StoresByte (s t : State) (a : Word) (v : Byte) : Prop :=
  ∀ x : Word, t.memRead x = if x = a then v else s.memRead x

/-- Of the registers only those of `rs` change, and of the rest only PC and STOP (R10). -/
def OnlyRegsChange (rs : List Reg) (s t : State) : Prop :=
  (∀ r, r ∉ rs → t.reg r = s.reg r) ∧ t.flags = s.flags ∧ t.sp = s.sp ∧ t.inte = s.inte ∧
  t.outLatch = s.outLatch ∧ t.mem = s.mem ∧ t.inCount = s.inCount

/-- Only A, CY, PC and STOP change (R370). -/
def OnlyAAndCarryChange (s t : State) : Prop :=
  t = { s with a := t.a, flags := { s.flags with cy := t.flags.cy }, pc := t.pc, stop := t.stop }

/-- The state with INTE and the output latch blanked out: what can influence execution (R45, R46, R52). -/
def State.HidingInteAndLatch (s : State) : State := { s with inte := false, outLatch := 0x00 }

end Sys2Proof.Machine

namespace Sys2Proof

/-- The instruction yields `Seq` on these flags (R135, R251): neither a transfer that is taken, nor HLT, nor ILLEGAL. -/
def Instr.yieldsSeq (i : Instr) (f : Machine.Flags) : Bool :=
  match i with
  | .jnz _ | .cnz _ | .rnz => f.z
  | .jz _ | .cz _ | .rz => !f.z
  | .jnc _ | .cnc _ | .rnc => f.cy
  | .jc _ | .cc _ | .rc => !f.cy
  | .jpo _ | .cpo _ | .rpo => f.p
  | .jpe _ | .cpe _ | .rpe => !f.p
  | .jp _ | .cp _ | .rp => f.s
  | .jm _ | .cm _ | .rm => !f.s
  | .hlt | .jmp _ | .rst0 | .ret | .call _ | .rst1 | .rst2 | .rst3
  | .rst4 | .pchl | .rst5 | .rst6 | .rst7 | .illegal _ => false
  | _ => true

/-- The flags an instruction may write (R42): the instructions of the table that write S, Z, P and AC. -/
def Instr.writesSzap : Instr → Bool
  | .inrB | .dcrB | .inrC | .dcrC | .inrD | .dcrD | .inrE | .dcrE
  | .inrH | .dcrH | .daa | .inrL | .dcrL | .inrM | .dcrM | .inrA
  | .dcrA | .addB | .addC | .addD | .addE | .addH | .addL | .addM
  | .addA | .adcB | .adcC | .adcD | .adcE | .adcH | .adcL | .adcM
  | .adcA | .subB | .subC | .subD | .subE | .subH | .subL | .subM
  | .subA | .sbbB | .sbbC | .sbbD | .sbbE | .sbbH | .sbbL | .sbbM
  | .sbbA | .anaB | .anaC | .anaD | .anaE | .anaH | .anaL | .anaM
  | .anaA | .xraB | .xraC | .xraD | .xraE | .xraH | .xraL | .xraM
  | .xraA | .oraB | .oraC | .oraD | .oraE | .oraH | .oraL | .oraM
  | .oraA | .cmpB | .cmpC | .cmpD | .cmpE | .cmpH | .cmpL | .cmpM
  | .cmpA | .adi _ | .aci _ | .sui _ | .sbi _ | .ani _ | .xri _ | .popPSW
  | .ori _ | .cpi _ => true
  | _ => false

/-- The instructions of the table that write CY (R42). -/
def Instr.writesCarry : Instr → Bool
  | .rlc | .dadB | .rrc | .ral | .dadD | .rar | .daa | .dadH
  | .stc | .dadSP | .cmc | .addB | .addC | .addD | .addE | .addH
  | .addL | .addM | .addA | .adcB | .adcC | .adcD | .adcE | .adcH
  | .adcL | .adcM | .adcA | .subB | .subC | .subD | .subE | .subH
  | .subL | .subM | .subA | .sbbB | .sbbC | .sbbD | .sbbE | .sbbH
  | .sbbL | .sbbM | .sbbA | .anaB | .anaC | .anaD | .anaE | .anaH
  | .anaL | .anaM | .anaA | .xraB | .xraC | .xraD | .xraE | .xraH
  | .xraL | .xraM | .xraA | .oraB | .oraC | .oraD | .oraE | .oraH
  | .oraL | .oraM | .oraA | .cmpB | .cmpC | .cmpD | .cmpE | .cmpH
  | .cmpL | .cmpM | .cmpA | .adi _ | .aci _ | .sui _ | .sbi _ | .ani _
  | .xri _ | .popPSW | .ori _ | .cpi _ => true
  | _ => false

/-- The instructions that write memory (R61). -/
def Instr.writesMemory : Instr → Bool
  | .staxB | .staxD | .shld _ | .sta _ | .inrM | .dcrM | .mviM _ | .movMB
  | .movMC | .movMD | .movME | .movMH | .movML | .movMA | .cnz _ | .pushB
  | .rst0 | .cz _ | .call _ | .rst1 | .cnc _ | .pushD | .rst2 | .cc _
  | .rst3 | .xthl | .cpo _ | .pushH | .rst4 | .cpe _ | .rst5 | .cp _
  | .pushPSW | .rst6 | .cm _ | .rst7 => true
  | _ => false

/-- The instructions that write SP (R38). -/
def Instr.writesSp : Instr → Bool
  | .lxiSP _ | .inxSP | .dcxSP | .rnz | .popB | .cnz _ | .pushB | .rst0
  | .rz | .ret | .cz _ | .call _ | .rst1 | .rnc | .popD | .cnc _
  | .pushD | .rst2 | .rc | .cc _ | .rst3 | .rpo | .popH | .cpo _
  | .pushH | .rst4 | .rpe | .cpe _ | .rst5 | .rp | .popPSW | .cp _
  | .pushPSW | .rst6 | .rm | .sphl | .cm _ | .rst7 => true
  | _ => false

/-- The 8-bit registers an instruction may write (R31), M not being a register. -/
def Instr.regsWritten : Instr → List Reg
  | .lxiB _ | .inxB | .dcxB | .popB => [.b, .c]
  | .inrB | .dcrB | .mviB _ | .movBB | .movBC | .movBD | .movBE | .movBH
  | .movBL | .movBM | .movBA => [.b]
  | .rlc | .ldaxB | .rrc | .ral | .ldaxD | .rar | .daa | .cma
  | .lda _ | .inrA | .dcrA | .mviA _ | .movAB | .movAC | .movAD | .movAE
  | .movAH | .movAL | .movAM | .movAA | .addB | .addC | .addD | .addE
  | .addH | .addL | .addM | .addA | .adcB | .adcC | .adcD | .adcE
  | .adcH | .adcL | .adcM | .adcA | .subB | .subC | .subD | .subE
  | .subH | .subL | .subM | .subA | .sbbB | .sbbC | .sbbD | .sbbE
  | .sbbH | .sbbL | .sbbM | .sbbA | .anaB | .anaC | .anaD | .anaE
  | .anaH | .anaL | .anaM | .anaA | .xraB | .xraC | .xraD | .xraE
  | .xraH | .xraL | .xraM | .xraA | .oraB | .oraC | .oraD | .oraE
  | .oraH | .oraL | .oraM | .oraA | .adi _ | .aci _ | .sui _ | .inP8 _
  | .sbi _ | .ani _ | .xri _ | .popPSW | .ori _ => [.a]
  | .dadB | .dadD | .lxiH _ | .inxH | .dadH | .lhld _ | .dcxH | .dadSP
  | .popH | .xthl => [.h, .l]
  | .inrC | .dcrC | .mviC _ | .movCB | .movCC | .movCD | .movCE | .movCH
  | .movCL | .movCM | .movCA => [.c]
  | .lxiD _ | .inxD | .dcxD | .popD => [.d, .e]
  | .inrD | .dcrD | .mviD _ | .movDB | .movDC | .movDD | .movDE | .movDH
  | .movDL | .movDM | .movDA => [.d]
  | .inrE | .dcrE | .mviE _ | .movEB | .movEC | .movED | .movEE | .movEH
  | .movEL | .movEM | .movEA => [.e]
  | .inrH | .dcrH | .mviH _ | .movHB | .movHC | .movHD | .movHE | .movHH
  | .movHL | .movHM | .movHA => [.h]
  | .inrL | .dcrL | .mviL _ | .movLB | .movLC | .movLD | .movLE | .movLH
  | .movLL | .movLM | .movLA => [.l]
  | .xchg => [.d, .e, .h, .l]
  | _ => []

end Sys2Proof
end

