-- ==== Sys2Proof/Certificates/Slice0/Obligations.lean ====
section
/-! DEFINITION. The statements about the machine. Each docstring names the rules of the spec it formalises, and, where a
clause rests on one of the spec's own decisions (`92_eei_decisions.md`) or on a choice of the model, says which. -/

open Sys2Proof Sys2Proof.Machine

/-- Words written out from the patterns of R94 to R101 decode to the instructions they stand for. That 0x76 is HLT, that
0xEF is RST 5, that OUT has two bytes and that 0xCB is illegal are the spec's decisions D2, D3, D5 and D1 (log entry 10). -/
def Obligations.WrittenOutWordsDecode : Prop :=
  Encodes [0b00000000] .nop ∧ Encodes [0b00010001, 0x34, 0x12] (.lxiD 0x1234) ∧ Encodes [0b01110011] .movME ∧
  Encodes [0b01110110] .hlt ∧ Encodes [0b10011110] .sbbM ∧ Encodes [0b11001110, 0x7F] (.aci 0x7F) ∧
  Encodes [0b11011010, 0x00, 0x20] (.jc 0x2000) ∧ Encodes [0b11110101] .pushPSW ∧ Encodes [0b11101111] .rst5 ∧
  Encodes [0b00101001] .dadH ∧ Encodes [0b00100111] .daa ∧ Encodes [0b11010011, 0x10] (.outP8 0x10) ∧
  Encodes [0b11001011] (.illegal 0xCB)

/-- Decoding the bytes of a well-formed instruction, written from the field patterns R92 to R100, gives it back from the opcode
map R103, with every operand at every value, whatever bytes follow. -/
def Obligations.DecodeInvertsEncode : Prop :=
  ∀ i : Instr, i.wf = true → Encodes (encode i) i

/-- Every byte value decodes to exactly one well-formed instruction, whose own bytes are the first of the three fetched (R90,
R102, R107). -/
def Obligations.EncodeInvertsDecode : Prop :=
  ∀ b0 b1 b2 : Byte,
    (decode b0 b1 b2).wf = true ∧ encode (decode b0 b1 b2) = [b0, b1, b2].take (decode b0 b1 b2).length

/-- The fields `ddd`, `sss` and `ooo` of R92 select the operands and the operation: groups 01 and 10 (R94 to R96) and the
immediate forms `11ooo110` (R96, R97). -/
def Obligations.FieldsSelectRegistersAndOperations : Prop :=
  ∀ (x y : Byte) (s : State),
    (∀ dst src : Operand, ¬ (dst = .m ∧ src = .m) → ∃ t,
      exec (decode (0b01#2 ++ dst.code ++ src.code) x y) s = .next t ∧
      t = { s.setOperand dst (s.operand src) with pc := t.pc, stop := t.stop }) ∧
    (∀ (op : AluOp) (src : Operand), ∃ t,
      exec (decode (0b10#2 ++ op.code ++ src.code) x y) s = .next t ∧
      t = { aluOn op (s.operand src) s with pc := t.pc, stop := t.stop }) ∧
    (s.Fits 2 → ∀ op : AluOp, ∃ t,
      exec (decode (0b11#2 ++ op.code ++ 0b110#3) x y) s = .next t ∧
      t = { aluOn op x s with pc := t.pc, stop := t.stop })

/-- The fields `ddd`, `rp`, `ccc` and `nnn` of groups 00 and 11 select the operand of the shared operation (R97 to R100).
Code 11 of `rp` is SP in LXI, INX, DCX and DAD and the PSW in PUSH and POP (R37). That
11nnn111 is RST is the spec's decision D3 (log entry 10). -/
def Obligations.FieldsSelectPairsConditionsAndRestarts : Prop :=
  ∀ (x y : Byte) (s : State),
    (∀ o : Operand, exec (decode (0b00#2 ++ o.code ++ 0b100#3) x y) s = performSeq 1 (incOperand o) s ∧
      exec (decode (0b00#2 ++ o.code ++ 0b101#3) x y) s = performSeq 1 (decOperand o) s ∧
      exec (decode (0b00#2 ++ o.code ++ 0b110#3) x y) s = performSeq 2 (fun u => u.setOperand o x) s) ∧
    (∀ p : Pair, exec (decode (0b00#2 ++ p.code ++ 0b0001#4) x y) s = performSeq 3 (fun u => u.setPair p (y ++ x)) s ∧
      exec (decode (0b00#2 ++ p.code ++ 0b0011#4) x y) s = performSeq 1 (fun u => u.setPair p (u.pair p + 1)) s ∧
      exec (decode (0b00#2 ++ p.code ++ 0b1011#4) x y) s = performSeq 1 (fun u => u.setPair p (u.pair p - 1)) s ∧
      exec (decode (0b00#2 ++ p.code ++ 0b1001#4) x y) s = performSeq 1 (addToHl p) s) ∧
    (∀ p : StackPair, exec (decode (0b11#2 ++ p.code ++ 0b0101#4) x y) s = performSeq 1 (pushPair p) s ∧
      exec (decode (0b11#2 ++ p.code ++ 0b0001#4) x y) s = performSeq 1 (popPair p) s) ∧
    (∀ test : Cond, exec (decode (0b11#2 ++ test.code ++ 0b010#3) x y) s = perform 3 (whenCond test (jumpTo (y ++ x))) s ∧
      exec (decode (0b11#2 ++ test.code ++ 0b100#3) x y) s = perform 3 (whenCond test (callTo 3 (y ++ x))) s ∧
      exec (decode (0b11#2 ++ test.code ++ 0b000#3) x y) s = perform 1 (whenCond test returnTop) s) ∧
    (∀ n : BitVec 3, exec (decode (0b11#2 ++ n ++ 0b111#3) x y) s =
      perform 1 (callTo 1 (BitVec.ofNat 16 (8 * n.toNat))) s)

/-- Twelve byte values and no others decode to `Illegal(b0)` (R101, R102; the spec's decision D1). -/
def Obligations.IllegalBytesAreExactlyTheTwelve : Prop :=
  ∀ b0 b1 b2 : Byte,
    ((∃ op, decode b0 b1 b2 = .illegal op) ↔
      b0 ∈ [0x08, 0x10, 0x18, 0x20, 0x28, 0x30, 0x38, 0xCB, 0xD9, 0xDD, 0xED, 0xFD]) ∧
    ∀ op, decode b0 b1 b2 = .illegal op → op = b0

/-- A running processor reads the three bytes at PC, PC+1 and PC+2 modulo 2^16 (R132), and its step is the execution of the
instruction they decode to, in the same state (R133 to R135, R139). That `exec` is all of a step after the decoding is log
entry 9 (DEDUCED). -/
def Obligations.StepRunsTheDecodedInstruction : Prop :=
  ∀ (s : State) (i : Instr), s.stop = .running → i.wf = true →
    decode (s.memRead s.pc) (s.memRead (s.pc + 1)) (s.memRead (s.pc + 2)) = i →
    step s = exec i s

/-- A stopped processor changes no state (R131; the spec's decision D30). -/
def Obligations.StoppedStepChangesNothing : Prop :=
  ∀ s : State, s.stop ≠ .running → step s = .next s

/-- ILLEGAL: the decode fault records the byte and PC in STOP and changes nothing else, wherever the byte stands (R133, R500,
R507; the spec's decisions D1 and D31). -/
def Obligations.IllegalByteRaisesDecodeFault : Prop :=
  (∀ (s : State) (op : Byte),
    op ∈ [0x08, 0x10, 0x18, 0x20, 0x28, 0x30, 0x38, 0xCB, 0xD9, 0xDD, 0xED, 0xFD] →
    Encodes [op] (.illegal op) ∧
    exec (.illegal op) s = .next { s with stop := .faulted .decodeFailure op s.pc }) ∧
  (∀ s : State, s.stop = .running →
    s.memRead s.pc ∈ [0x08, 0x10, 0x18, 0x20, 0x28, 0x30, 0x38, 0xCB, 0xD9, 0xDD, 0xED, 0xFD] →
    step s = .next { s with stop := .faulted .decodeFailure (s.memRead s.pc) s.pc })

/-- An instruction whose bytes extend past 0xFFFF is not executed: STOP becomes EndOfAddressSpace and nothing else changes
(R134, R502 case (a); the spec's decision D7). -/
def Obligations.InstructionPastTheTopDoesNotExecute : Prop :=
  ∀ (i : Instr) (s : State), i.wf = true → 0x10000 < s.pc.toNat + i.length →
    exec i s = .next { s with stop := .endOfAddressSpace }

/-- An instruction that yields `Seq`, a transfer that is not taken among them, advances PC by its length; one that ends exactly
at 0xFFFF keeps PC and stops with EndOfAddressSpace (R136, R137, R141; the spec's decision D7). -/
def Obligations.SequentialInstructionsAdvanceByTheirLength : Prop :=
  ∀ (i : Instr) (s : State), i.yieldsSeq s.flags = true → s.Fits i.length →
    ∃ t, exec i s = .next t ∧ AdvancesBy i.length s t

/-- No instruction raises anything else than the values of STOP: every step, and every execution of a well-formed instruction,
has a next state (R505). Every value of STOP is a field of a next state (log entry 9), and the fault `decoderMismatch` (R501, log
entry 4), which the spec's decision D29 calls unreachable, is reached by no step. -/
def Obligations.EveryStepHasANextState : Prop :=
  (∀ s : State, ∃ t, step s = .next t) ∧ (∀ (i : Instr) (s : State), i.wf = true → ∃ t, exec i s = .next t)

/-- Every step keeps the model's canonical form of memory: addresses rising and inside the 65536 bytes of R60, no byte listed
that an unlisted address would read as. The form is the model's own representation (log entry 2). -/
def Obligations.StepKeepsMemoryCanonical : Prop :=
  ∀ s t : State, s.MemoryCanonical → step s = .next t → t.MemoryCanonical

/-- Every event is precise (R506): STOP tells what happened and where. After a decode fault, PC and the byte there are the
recorded ones and the byte is illegal; after HLT, 0x76 stands before PC; after the end of the address space, PC is at least
0xFFFD (R500, R502, R503). These stops are the spec's decisions: the decode fault and what it leaves D1 and D31, HLT D2, the
end of the address space D7 (log entry 10). -/
def Obligations.StepKeepsStopRecordAccurate : Prop :=
  ∀ s t : State, s.StopRecordAccurate → step s = .next t → t.StopRecordAccurate

/-- The reset state meets the invariants and has the values of R50. (The value of SP is log entry 1; only that it is not 0x0000
is the spec's.) -/
def Obligations.ResetMeetsTheInvariants : Prop :=
  State.reset.MemoryCanonical ∧ State.reset.StopRecordAccurate ∧ State.reset.stop = .running ∧
  State.reset.pc = 0x0000 ∧ State.reset.sp ≠ 0x0000 ∧ ∀ r : Reg, State.reset.reg r = 0x00

/-- A step reports at most one event, in the order of R507: an illegal byte, an instruction past 0xFFFF, then HLT or a sequential
end at 0xFFFF. So an illegal byte at 0xFFFF faults and a HLT at 0xFFFF halts. Only these events leave `Running`.
The events themselves are the spec's decisions D1 (illegal bytes), D2 (HLT) and D7 (the end of the address space; log entry 10). -/
def Obligations.StopOfAStepFollowsThePriority : Prop :=
  ∀ s t : State, s.stop = .running → step s = .next t →
    (t.stop = .faulted .decodeFailure (s.memRead s.pc) s.pc ↔ s.memRead s.pc ∈ illegalBytes) ∧
    (t.stop = .halted ↔ s.memRead s.pc = 0x76) ∧
    (t.stop = .endOfAddressSpace ↔ s.memRead s.pc ∉ illegalBytes ∧
      (0x10000 < s.pc.toNat + (fetchInstr s).length ∨
        (s.pc.toNat + (fetchInstr s).length = 0x10000 ∧ (fetchInstr s).yieldsSeq s.flags = true))) ∧
    (t.stop = .running ∨ t.stop = .halted ∨ t.stop = .endOfAddressSpace ∨
      t.stop = .faulted .decodeFailure (s.memRead s.pc) s.pc)

/-- The memory primitives of R11: a write changes the byte at its address and nothing else, and a two-byte read is
little-endian, its second address modulo 2^16. -/
def Obligations.WriteThenRead : Prop :=
  ∀ (s : State) (a x : Word) (v : Byte), s.MemoryCanonical →
    (s.memWrite a v).memRead x = (if x = a then v else s.memRead x) ∧
    s.memWrite a v = { s with mem := (s.memWrite a v).mem } ∧
    s.memRead16 a = s.memRead (a + 1) ++ s.memRead a

/-- A STA to its own opcode address completes as STA, and the byte it stored is what the next fetch of that address reads (R73,
R327, R607). -/
def Obligations.SelfOverwritingStoreRunsAsFetched : Prop :=
  ∀ s : State, s.MemoryCanonical → s.stop = .running → s.pc.toNat + 3 < 0x10000 →
    s.memRead s.pc = 0x32 → s.memRead (s.pc + 1) = s.pc.setWidth 8 →
    s.memRead (s.pc + 2) = (s.pc >>> 8).setWidth 8 →
    ∃ t, step s = .next t ∧ t.pc = s.pc + 3 ∧ t.stop = .running ∧ StoresByte s t s.pc s.a ∧
      t = { s with pc := t.pc, mem := t.mem } ∧
      fetchInstr { t with pc := s.pc } = decode s.a (s.pc.setWidth 8) ((s.pc >>> 8).setWidth 8)

/-- ADD r, ADD M and ADI (R205 to R207): the sum modulo 256 in A, and the flag algebra of R204. PC and STOP:
`SequentialInstructionsAdvanceByTheirLength`. -/
def Obligations.AddGivesSumAndFlags : Prop :=
  ∀ (s : State) (d : Byte) (bytes : List Byte) (i : Instr) (b : Byte),
    (bytes, i, b) ∈ [
      ([0x80], Instr.addB, s.b), ([0x81], .addC, s.c), ([0x82], .addD, s.d),
      ([0x83], .addE, s.e), ([0x84], .addH, s.h), ([0x85], .addL, s.l),
      ([0x86], .addM, s.memRead s.hl), ([0x87], .addA, s.a), ([0xC6, d], .adi d, d)] →
    s.Fits bytes.length →
    Encodes bytes i ∧ ∃ t, exec i s = .next t ∧
      t = { s with a := t.a, flags := t.flags, pc := t.pc, stop := t.stop } ∧
      t.a.toNat = (s.a.toNat + b.toNat) % 256 ∧ t.flags.ZspOf t.a ∧
      (t.flags.cy = true ↔ 255 < s.a.toNat + b.toNat) ∧
      (t.flags.ac = true ↔ 15 < s.a.toNat % 16 + b.toNat % 16)

/-- ADC r, ADC M and ACI (R208 to R210). That the carry-in does not enter AC is the spec's decision D15. -/
def Obligations.AdcGivesSumWithCarryAndFlags : Prop :=
  ∀ (s : State) (d : Byte) (bytes : List Byte) (i : Instr) (b : Byte),
    (bytes, i, b) ∈ [
      ([0x88], Instr.adcB, s.b), ([0x89], .adcC, s.c), ([0x8A], .adcD, s.d),
      ([0x8B], .adcE, s.e), ([0x8C], .adcH, s.h), ([0x8D], .adcL, s.l),
      ([0x8E], .adcM, s.memRead s.hl), ([0x8F], .adcA, s.a), ([0xCE, d], .aci d, d)] →
    s.Fits bytes.length →
    Encodes bytes i ∧ ∃ t, exec i s = .next t ∧
      t = { s with a := t.a, flags := t.flags, pc := t.pc, stop := t.stop } ∧
      t.a.toNat = (s.a.toNat + b.toNat + (if s.flags.cy then 1 else 0)) % 256 ∧ t.flags.ZspOf t.a ∧
      (t.flags.cy = true ↔ 255 < s.a.toNat + b.toNat + (if s.flags.cy then 1 else 0)) ∧
      (t.flags.ac = true ↔ 15 < s.a.toNat % 16 + b.toNat % 16)

/-- SUB r, SUB M and SUI (R211 to R213). -/
def Obligations.SubGivesDifferenceAndFlags : Prop :=
  ∀ (s : State) (d : Byte) (bytes : List Byte) (i : Instr) (b : Byte),
    (bytes, i, b) ∈ [
      ([0x90], Instr.subB, s.b), ([0x91], .subC, s.c), ([0x92], .subD, s.d),
      ([0x93], .subE, s.e), ([0x94], .subH, s.h), ([0x95], .subL, s.l),
      ([0x96], .subM, s.memRead s.hl), ([0x97], .subA, s.a), ([0xD6, d], .sui d, d)] →
    s.Fits bytes.length →
    Encodes bytes i ∧ ∃ t, exec i s = .next t ∧
      t = { s with a := t.a, flags := t.flags, pc := t.pc, stop := t.stop } ∧
      (t.a.toNat : Int) = ((s.a.toNat : Int) - b.toNat) % 256 ∧ t.flags.ZspOf t.a ∧
      (t.flags.cy = true ↔ s.a.toNat < b.toNat) ∧
      (t.flags.ac = true ↔ s.a.toNat % 16 < b.toNat % 16)

/-- SBB r, SBB M and SBI (R214 to R216). That the borrow-in does not enter AC is the spec's decision D15. -/
def Obligations.SbbGivesDifferenceWithBorrowAndFlags : Prop :=
  ∀ (s : State) (d : Byte) (bytes : List Byte) (i : Instr) (b : Byte),
    (bytes, i, b) ∈ [
      ([0x98], Instr.sbbB, s.b), ([0x99], .sbbC, s.c), ([0x9A], .sbbD, s.d),
      ([0x9B], .sbbE, s.e), ([0x9C], .sbbH, s.h), ([0x9D], .sbbL, s.l),
      ([0x9E], .sbbM, s.memRead s.hl), ([0x9F], .sbbA, s.a), ([0xDE, d], .sbi d, d)] →
    s.Fits bytes.length →
    Encodes bytes i ∧ ∃ t, exec i s = .next t ∧
      t = { s with a := t.a, flags := t.flags, pc := t.pc, stop := t.stop } ∧
      (t.a.toNat : Int) = ((s.a.toNat : Int) - b.toNat - (if s.flags.cy then 1 else 0)) % 256 ∧ t.flags.ZspOf t.a ∧
      (t.flags.cy = true ↔ s.a.toNat < b.toNat + (if s.flags.cy then 1 else 0)) ∧
      (t.flags.ac = true ↔ s.a.toNat % 16 < b.toNat % 16)

/-- ANA, XRA and ORA with a register, M or an immediate byte (R217 to R225): bit by bit, CY and AC false.
That ANA clears AC is the spec's choice C7 (90_conflicts.md; log entry 10). -/
def Obligations.LogicGivesBitwiseResultAndClearsCarries : Prop :=
  ∀ (s : State) (d : Byte) (bytes : List Byte) (i : Instr) (b : Byte) (f : Bool → Bool → Bool),
    (bytes, i, b, f) ∈ ([
      ([0xA0], Instr.anaB, s.b, fun p q => p && q), ([0xA1], .anaC, s.c, fun p q => p && q),
      ([0xA2], .anaD, s.d, fun p q => p && q), ([0xA3], .anaE, s.e, fun p q => p && q),
      ([0xA4], .anaH, s.h, fun p q => p && q), ([0xA5], .anaL, s.l, fun p q => p && q),
      ([0xA6], .anaM, s.memRead s.hl, fun p q => p && q), ([0xA7], .anaA, s.a, fun p q => p && q),
      ([0xE6, d], .ani d, d, fun p q => p && q), ([0xA8], .xraB, s.b, fun p q => p ^^ q),
      ([0xA9], .xraC, s.c, fun p q => p ^^ q), ([0xAA], .xraD, s.d, fun p q => p ^^ q),
      ([0xAB], .xraE, s.e, fun p q => p ^^ q), ([0xAC], .xraH, s.h, fun p q => p ^^ q),
      ([0xAD], .xraL, s.l, fun p q => p ^^ q), ([0xAE], .xraM, s.memRead s.hl, fun p q => p ^^ q),
      ([0xAF], .xraA, s.a, fun p q => p ^^ q), ([0xEE, d], .xri d, d, fun p q => p ^^ q),
      ([0xB0], .oraB, s.b, fun p q => p || q), ([0xB1], .oraC, s.c, fun p q => p || q),
      ([0xB2], .oraD, s.d, fun p q => p || q), ([0xB3], .oraE, s.e, fun p q => p || q),
      ([0xB4], .oraH, s.h, fun p q => p || q), ([0xB5], .oraL, s.l, fun p q => p || q),
      ([0xB6], .oraM, s.memRead s.hl, fun p q => p || q), ([0xB7], .oraA, s.a, fun p q => p || q),
      ([0xF6, d], .ori d, d, fun p q => p || q)] : List (List Byte × Instr × Byte × (Bool → Bool → Bool))) →
    s.Fits bytes.length →
    Encodes bytes i ∧ ∃ t, exec i s = .next t ∧
      t = { s with a := t.a, flags := t.flags, pc := t.pc, stop := t.stop } ∧
      (∀ k, k < 8 → t.a.getLsbD k = f (s.a.getLsbD k) (b.getLsbD k)) ∧
      t.flags.ZspOf t.a ∧ t.flags.cy = false ∧ t.flags.ac = false

/-- CMP r, CMP M and CPI (R226 to R228): the flags of the subtraction, A not written. -/
def Obligations.CmpSetsFlagsOfTheDifferenceOnly : Prop :=
  ∀ (s : State) (d : Byte) (bytes : List Byte) (i : Instr) (b : Byte),
    (bytes, i, b) ∈ [
      ([0xB8], Instr.cmpB, s.b), ([0xB9], .cmpC, s.c), ([0xBA], .cmpD, s.d),
      ([0xBB], .cmpE, s.e), ([0xBC], .cmpH, s.h), ([0xBD], .cmpL, s.l),
      ([0xBE], .cmpM, s.memRead s.hl), ([0xBF], .cmpA, s.a), ([0xFE, d], .cpi d, d)] →
    s.Fits bytes.length →
    Encodes bytes i ∧ ∃ t, exec i s = .next t ∧
      t = { s with flags := t.flags, pc := t.pc, stop := t.stop } ∧
      t.flags.ZspOf (s.a - b) ∧ (t.flags.z = true ↔ s.a = b) ∧ (t.flags.cy = true ↔ s.a.toNat < b.toNat) ∧
      (t.flags.ac = true ↔ s.a.toNat % 16 < b.toNat % 16)

/-- MOV r1,r2, the 49 register forms (R320). -/
def Obligations.MovCopiesRegisterToRegister : Prop :=
  ∀ (s : State) (op : Byte) (i : Instr) (dst src : Reg),
    (op, i, dst, src) ∈ [
      (0x40, Instr.movBB, Reg.b, Reg.b), (0x41, .movBC, .b, .c), (0x42, .movBD, .b, .d), (0x43, .movBE, .b, .e),
      (0x44, .movBH, .b, .h), (0x45, .movBL, .b, .l), (0x47, .movBA, .b, .a), (0x48, .movCB, .c, .b),
      (0x49, .movCC, .c, .c), (0x4A, .movCD, .c, .d), (0x4B, .movCE, .c, .e), (0x4C, .movCH, .c, .h),
      (0x4D, .movCL, .c, .l), (0x4F, .movCA, .c, .a), (0x50, .movDB, .d, .b), (0x51, .movDC, .d, .c),
      (0x52, .movDD, .d, .d), (0x53, .movDE, .d, .e), (0x54, .movDH, .d, .h), (0x55, .movDL, .d, .l),
      (0x57, .movDA, .d, .a), (0x58, .movEB, .e, .b), (0x59, .movEC, .e, .c), (0x5A, .movED, .e, .d),
      (0x5B, .movEE, .e, .e), (0x5C, .movEH, .e, .h), (0x5D, .movEL, .e, .l), (0x5F, .movEA, .e, .a),
      (0x60, .movHB, .h, .b), (0x61, .movHC, .h, .c), (0x62, .movHD, .h, .d), (0x63, .movHE, .h, .e),
      (0x64, .movHH, .h, .h), (0x65, .movHL, .h, .l), (0x67, .movHA, .h, .a), (0x68, .movLB, .l, .b),
      (0x69, .movLC, .l, .c), (0x6A, .movLD, .l, .d), (0x6B, .movLE, .l, .e), (0x6C, .movLH, .l, .h),
      (0x6D, .movLL, .l, .l), (0x6F, .movLA, .l, .a), (0x78, .movAB, .a, .b), (0x79, .movAC, .a, .c),
      (0x7A, .movAD, .a, .d), (0x7B, .movAE, .a, .e), (0x7C, .movAH, .a, .h), (0x7D, .movAL, .a, .l),
      (0x7F, .movAA, .a, .a)] →
    Encodes [op] i ∧ ∃ t, exec i s = .next t ∧ t.reg dst = s.reg src ∧ OnlyRegsChange [dst] s t

/-- MOV r,M (R321), LDA (R326), LDAX (R330): the byte at the address goes to the register. That
B and D are the high bytes of BC and DE is the spec's decision D28. -/
def Obligations.LoadsReadTheAddressedByte : Prop :=
  ∀ (s : State) (lo hi : Byte) (bytes : List Byte) (i : Instr) (dst : Reg) (addr : Word),
    (bytes, i, dst, addr) ∈ [
      ([0x46], Instr.movBM, Reg.b, s.hl), ([0x4E], .movCM, .c, s.hl), ([0x56], .movDM, .d, s.hl),
      ([0x5E], .movEM, .e, s.hl), ([0x66], .movHM, .h, s.hl), ([0x6E], .movLM, .l, s.hl),
      ([0x7E], .movAM, .a, s.hl), ([0x3A, lo, hi], .lda (hi ++ lo), .a, hi ++ lo), ([0x0A], .ldaxB, .a, s.b ++ s.c),
      ([0x1A], .ldaxD, .a, s.d ++ s.e)] →
    s.Fits bytes.length →
    Encodes bytes i ∧ ∃ t, exec i s = .next t ∧ t.reg dst = s.memRead addr ∧ OnlyRegsChange [dst] s t

/-- MOV M,r (R322), MVI M (R324), STA (R327), STAX (R331): one byte is stored, every other address reads as
before. That B and D are the high bytes of BC and DE is the spec's decision D28. -/
def Obligations.StoresWriteTheAddressedByte : Prop :=
  ∀ (s : State) (lo hi : Byte) (bytes : List Byte) (i : Instr) (addr : Word) (v : Byte),
    (bytes, i, addr, v) ∈ [
      ([0x70], Instr.movMB, s.hl, s.b), ([0x71], .movMC, s.hl, s.c), ([0x72], .movMD, s.hl, s.d),
      ([0x73], .movME, s.hl, s.e), ([0x74], .movMH, s.hl, s.h), ([0x75], .movML, s.hl, s.l),
      ([0x77], .movMA, s.hl, s.a), ([0x36, lo], .mviM lo, s.hl, lo), ([0x32, lo, hi], .sta (hi ++ lo), hi ++ lo, s.a),
      ([0x02], .staxB, s.b ++ s.c, s.a), ([0x12], .staxD, s.d ++ s.e, s.a)] →
    s.Fits bytes.length → s.MemoryCanonical →
    Encodes bytes i ∧ ∃ t, exec i s = .next t ∧ StoresByte s t addr v ∧
      t = { s with mem := t.mem, pc := t.pc, stop := t.stop }

/-- MVI r,d8, the seven register forms (R323). The stop at the top of memory is the spec's decision D7. -/
def Obligations.MviLoadsTheImmediateByte : Prop :=
  ∀ (s : State) (d op : Byte) (i : Instr) (dst : Reg),
    (op, i, dst) ∈ [
      (0x06, Instr.mviB d, Reg.b), (0x0E, .mviC d, .c), (0x16, .mviD d, .d), (0x1E, .mviE d, .e),
      (0x26, .mviH d, .h), (0x2E, .mviL d, .l), (0x3E, .mviA d, .a)] →
    s.Fits 2 →
    Encodes [op, d] i ∧ ∃ t, exec i s = .next t ∧ t.reg dst = d ∧ OnlyRegsChange [dst] s t ∧ AdvancesBy 2 s t

/-- LXI B, D, H and SP (R325): the high register gets `b2`, the low register `b1`; code 11 is SP. The order of the
pair is the spec's decision D28. -/
def Obligations.LxiLoadsTheImmediateWord : Prop :=
  ∀ (s : State) (lo hi : Byte), s.Fits 3 →
    (Encodes [0x01, lo, hi] (.lxiB (hi ++ lo)) ∧ ∃ t, exec (.lxiB (hi ++ lo)) s = .next t ∧
      t = { s with b := hi, c := lo, pc := t.pc, stop := t.stop }) ∧
    (Encodes [0x11, lo, hi] (.lxiD (hi ++ lo)) ∧ ∃ t, exec (.lxiD (hi ++ lo)) s = .next t ∧
      t = { s with d := hi, e := lo, pc := t.pc, stop := t.stop }) ∧
    (Encodes [0x21, lo, hi] (.lxiH (hi ++ lo)) ∧ ∃ t, exec (.lxiH (hi ++ lo)) s = .next t ∧
      t = { s with h := hi, l := lo, pc := t.pc, stop := t.stop }) ∧
    (Encodes [0x31, lo, hi] (.lxiSP (hi ++ lo)) ∧ ∃ t, exec (.lxiSP (hi ++ lo)) s = .next t ∧
      t = { s with sp := hi ++ lo, pc := t.pc, stop := t.stop })

/-- LHLD (R328) and SHLD (R329): L at the address and H at the address + 1 modulo 2^16, an order the spec takes from general
knowledge. -/
def Obligations.LhldAndShldMoveHlLittleEndian : Prop :=
  ∀ (s : State) (lo hi : Byte), s.Fits 3 → s.MemoryCanonical →
    (Encodes [0x2A, lo, hi] (.lhld (hi ++ lo)) ∧ ∃ t, exec (.lhld (hi ++ lo)) s = .next t ∧
      t = { s with l := s.memRead (hi ++ lo), h := s.memRead ((hi ++ lo) + 1#16), pc := t.pc, stop := t.stop }) ∧
    (Encodes [0x22, lo, hi] (.shld (hi ++ lo)) ∧ ∃ t, exec (.shld (hi ++ lo)) s = .next t ∧
      StoresWord s t (hi ++ lo) (s.h ++ s.l) ∧ t = { s with mem := t.mem, pc := t.pc, stop := t.stop })

/-- XCHG (R332). -/
def Obligations.XchgSwapsDeAndHl : Prop :=
  ∀ s : State, Encodes [0xEB] .xchg ∧ ∃ t, exec .xchg s = .next t ∧
    t = { s with d := s.h, e := s.l, h := s.d, l := s.e, pc := t.pc, stop := t.stop }

/-- INR r and INR M (R353, R354): plus 1 modulo 256, CY kept. The rule of AC is the spec's decision D16 (R350). -/
def Obligations.InrSetsFlagsButCarry : Prop :=
  (∀ (s : State) (op : Byte) (i : Instr) (r : Reg),
    (op, i, r) ∈ [
      (0x04, Instr.inrB, Reg.b), (0x0C, .inrC, .c), (0x14, .inrD, .d), (0x1C, .inrE, .e),
      (0x24, .inrH, .h), (0x2C, .inrL, .l), (0x3C, .inrA, .a)] →
    Encodes [op] i ∧ ∃ t, exec i s = .next t ∧ t.reg r = s.reg r + 1 ∧
      (∀ q : Reg, q ≠ r → t.reg q = s.reg q) ∧ t.flags.ZspOf (s.reg r + 1) ∧
      (t.flags.ac = true ↔ (s.reg r).toNat % 16 = 15) ∧ t.flags.cy = s.flags.cy ∧
      t.sp = s.sp ∧ t.inte = s.inte ∧ t.outLatch = s.outLatch ∧ t.mem = s.mem ∧ t.inCount = s.inCount) ∧
  (∀ s : State, s.MemoryCanonical →
    Encodes [0x34] .inrM ∧ ∃ t, exec .inrM s = .next t ∧
      StoresByte s t s.hl (s.memRead s.hl + 1) ∧ t.flags.ZspOf (s.memRead s.hl + 1) ∧
      (t.flags.ac = true ↔ (s.memRead s.hl).toNat % 16 = 15) ∧ t.flags.cy = s.flags.cy ∧
      t = { s with flags := t.flags, mem := t.mem, pc := t.pc, stop := t.stop })

/-- DCR r and DCR M (R355, R356): minus 1 modulo 256, CY kept. The rule of AC is the spec's decision D16 (R350). -/
def Obligations.DcrSetsFlagsButCarry : Prop :=
  (∀ (s : State) (op : Byte) (i : Instr) (r : Reg),
    (op, i, r) ∈ [
      (0x05, Instr.dcrB, Reg.b), (0x0D, .dcrC, .c), (0x15, .dcrD, .d), (0x1D, .dcrE, .e),
      (0x25, .dcrH, .h), (0x2D, .dcrL, .l), (0x3D, .dcrA, .a)] →
    Encodes [op] i ∧ ∃ t, exec i s = .next t ∧ t.reg r = s.reg r - 1 ∧
      (∀ q : Reg, q ≠ r → t.reg q = s.reg q) ∧ t.flags.ZspOf (s.reg r - 1) ∧
      (t.flags.ac = true ↔ (s.reg r).toNat % 16 = 0) ∧ t.flags.cy = s.flags.cy ∧
      t.sp = s.sp ∧ t.inte = s.inte ∧ t.outLatch = s.outLatch ∧ t.mem = s.mem ∧ t.inCount = s.inCount) ∧
  (∀ s : State, s.MemoryCanonical →
    Encodes [0x35] .dcrM ∧ ∃ t, exec .dcrM s = .next t ∧
      StoresByte s t s.hl (s.memRead s.hl - 1) ∧ t.flags.ZspOf (s.memRead s.hl - 1) ∧
      (t.flags.ac = true ↔ (s.memRead s.hl).toNat % 16 = 0) ∧ t.flags.cy = s.flags.cy ∧
      t = { s with flags := t.flags, mem := t.mem, pc := t.pc, stop := t.stop })

/-- INX and DCX of BC, DE, HL and SP (R357, R358): plus or minus 1 modulo 2^16, no flag. The order of the pair is
the spec's decision D28. -/
def Obligations.InxAndDcxStepThePairWithoutFlags : Prop :=
  ∀ s : State,
    (Encodes [0x03] .inxB ∧ ∃ t, exec .inxB s = .next t ∧
      (t.b.toNat * 256 + t.c.toNat) = (s.b.toNat * 256 + s.c.toNat + 1) % 65536 ∧
      t = { s with b := t.b, c := t.c, pc := t.pc, stop := t.stop }) ∧
    (Encodes [0x13] .inxD ∧ ∃ t, exec .inxD s = .next t ∧
      (t.d.toNat * 256 + t.e.toNat) = (s.d.toNat * 256 + s.e.toNat + 1) % 65536 ∧
      t = { s with d := t.d, e := t.e, pc := t.pc, stop := t.stop }) ∧
    (Encodes [0x23] .inxH ∧ ∃ t, exec .inxH s = .next t ∧
      (t.h.toNat * 256 + t.l.toNat) = (s.h.toNat * 256 + s.l.toNat + 1) % 65536 ∧
      t = { s with h := t.h, l := t.l, pc := t.pc, stop := t.stop }) ∧
    (Encodes [0x33] .inxSP ∧ ∃ t, exec .inxSP s = .next t ∧
      t.sp.toNat = (s.sp.toNat + 1) % 65536 ∧ t = { s with sp := t.sp, pc := t.pc, stop := t.stop }) ∧
    (Encodes [0x0B] .dcxB ∧ ∃ t, exec .dcxB s = .next t ∧
      (t.b.toNat * 256 + t.c.toNat) = (s.b.toNat * 256 + s.c.toNat + 65535) % 65536 ∧
      t = { s with b := t.b, c := t.c, pc := t.pc, stop := t.stop }) ∧
    (Encodes [0x1B] .dcxD ∧ ∃ t, exec .dcxD s = .next t ∧
      (t.d.toNat * 256 + t.e.toNat) = (s.d.toNat * 256 + s.e.toNat + 65535) % 65536 ∧
      t = { s with d := t.d, e := t.e, pc := t.pc, stop := t.stop }) ∧
    (Encodes [0x2B] .dcxH ∧ ∃ t, exec .dcxH s = .next t ∧
      (t.h.toNat * 256 + t.l.toNat) = (s.h.toNat * 256 + s.l.toNat + 65535) % 65536 ∧
      t = { s with h := t.h, l := t.l, pc := t.pc, stop := t.stop }) ∧
    (Encodes [0x3B] .dcxSP ∧ ∃ t, exec .dcxSP s = .next t ∧
      t.sp.toNat = (s.sp.toNat + 65535) % 65536 ∧ t = { s with sp := t.sp, pc := t.pc, stop := t.stop })

/-- DAD B, D, H and SP (R359): HL plus the pair modulo 2^16, CY from bit 15, the other flags kept. The order of the
pair is the spec's decision D28. -/
def Obligations.DadAddsThePairToHl : Prop :=
  ∀ (s : State) (op : Byte) (i : Instr) (x : Nat),
    (op, i, x) ∈ [(0x09, Instr.dadB, s.b.toNat * 256 + s.c.toNat), (0x19, .dadD, s.d.toNat * 256 + s.e.toNat),
      (0x29, .dadH, s.h.toNat * 256 + s.l.toNat), (0x39, .dadSP, s.sp.toNat)] →
    Encodes [op] i ∧ ∃ t, exec i s = .next t ∧
      t.h.toNat * 256 + t.l.toNat = (s.h.toNat * 256 + s.l.toNat + x) % 65536 ∧
      (t.flags.cy = true ↔ 65535 < s.h.toNat * 256 + s.l.toNat + x) ∧
      t = { s with h := t.h, l := t.l, flags := { s.flags with cy := t.flags.cy }, pc := t.pc, stop := t.stop }

/-- RLC, RRC, RAL and RAR (R370 to R374), which the spec takes from general knowledge: each bit moves one place, S, Z, AC and P
are kept. -/
def Obligations.RotatesMoveTheBitsOfAAndCarry : Prop :=
  ∀ s : State,
    (Encodes [0x07] .rlc ∧ ∃ t, exec .rlc s = .next t ∧ t.flags.cy = s.a.getLsbD 7 ∧
      (∀ k, k < 7 → t.a.getLsbD (k + 1) = s.a.getLsbD k) ∧ t.a.getLsbD 0 = s.a.getLsbD 7 ∧ OnlyAAndCarryChange s t) ∧
    (Encodes [0x0F] .rrc ∧ ∃ t, exec .rrc s = .next t ∧ t.flags.cy = s.a.getLsbD 0 ∧
      (∀ k, k < 7 → t.a.getLsbD k = s.a.getLsbD (k + 1)) ∧ t.a.getLsbD 7 = s.a.getLsbD 0 ∧ OnlyAAndCarryChange s t) ∧
    (Encodes [0x17] .ral ∧ ∃ t, exec .ral s = .next t ∧ t.flags.cy = s.a.getLsbD 7 ∧
      (∀ k, k < 7 → t.a.getLsbD (k + 1) = s.a.getLsbD k) ∧ t.a.getLsbD 0 = s.flags.cy ∧ OnlyAAndCarryChange s t) ∧
    (Encodes [0x1F] .rar ∧ ∃ t, exec .rar s = .next t ∧ t.flags.cy = s.a.getLsbD 0 ∧
      (∀ k, k < 7 → t.a.getLsbD k = s.a.getLsbD (k + 1)) ∧ t.a.getLsbD 7 = s.flags.cy ∧ OnlyAAndCarryChange s t)

/-- DAA (R375; the algorithm is the spec's decision D17). -/
def Obligations.DaaAppliesTheTwoCorrections : Prop :=
  ∀ s : State, Encodes [0x27] .daa ∧ ∃ t, exec .daa s = .next t ∧
    t = { s with a := t.a, flags := t.flags, pc := t.pc, stop := t.stop } ∧
    t.a.toNat = (s.a.toNat + (if 9 < s.a.toNat % 16 ∨ s.flags.ac = true then 6 else 0) +
      (if 0x99 < s.a.toNat ∨ s.flags.cy = true then 0x60 else 0)) % 256 ∧
    t.flags.ZspOf t.a ∧
    (t.flags.ac = true ↔ 15 < s.a.toNat % 16 + (if 9 < s.a.toNat % 16 ∨ s.flags.ac = true then 6 else 0)) ∧
    (t.flags.cy = true ↔ 0x99 < s.a.toNat ∨ s.flags.cy = true)

/-- ADI of one packed-BCD byte to another and then DAA gives their packed-BCD sum modulo 100, CY from 100 on (R376, which the
spec derives from R375 and R207; D17). -/
def Obligations.AddThenDaaIsDecimalAddition : Prop :=
  ∀ (s : State) (x y : Nat), x < 100 → y < 100 → s.Fits 2 →
    s.a = BitVec.ofNat 8 (x / 10 * 16 + x % 10) →
    ∃ t u, exec (.adi (BitVec.ofNat 8 (y / 10 * 16 + y % 10))) s = .next t ∧ exec .daa t = .next u ∧
      u.a = BitVec.ofNat 8 ((x + y) % 100 / 10 * 16 + (x + y) % 100 % 10) ∧
      (u.flags.cy = true ↔ 100 ≤ x + y)

/-- STC (R378) and CMC (R379). -/
def Obligations.StcAndCmcWriteCarryOnly : Prop :=
  ∀ s : State,
    (Encodes [0x37] .stc ∧ ∃ t, exec .stc s = .next t ∧
      t = { s with flags := { s.flags with cy := true }, pc := t.pc, stop := t.stop }) ∧
    (Encodes [0x3F] .cmc ∧ ∃ t, exec .cmc s = .next t ∧
      t = { s with flags := { s.flags with cy := !s.flags.cy }, pc := t.pc, stop := t.stop })

/-- CMA (R377). That it writes no flag is general knowledge in the spec. -/
def Obligations.CmaComplementsAWithoutFlags : Prop :=
  ∀ s : State, Encodes [0x2F] .cma ∧ ∃ t, exec .cma s = .next t ∧ t.a.toNat = 255 - s.a.toNat ∧
    t = { s with a := t.a, pc := t.pc, stop := t.stop }

/-- JMP (R253), PCHL (R284) and the eight conditional jumps (R255 to R262): taken, PC is the target and nothing else changes; not
taken, PC advances by the length (at the top of memory, the spec's decision D7). -/
def Obligations.JumpsTakeTheirTargetWhenTheFlagSays : Prop :=
  ∀ (s : State) (lo hi : Byte) (bytes : List Byte) (i : Instr) (test : Bool) (target : Word),
    (bytes, i, test, target) ∈ [
      ([0xC3, lo, hi], Instr.jmp (hi ++ lo), true, hi ++ lo), ([0xE9], .pchl, true, s.h ++ s.l),
      ([0xC2, lo, hi], .jnz (hi ++ lo), !s.flags.z, hi ++ lo), ([0xCA, lo, hi], .jz (hi ++ lo), s.flags.z, hi ++ lo),
      ([0xD2, lo, hi], .jnc (hi ++ lo), !s.flags.cy, hi ++ lo), ([0xDA, lo, hi], .jc (hi ++ lo), s.flags.cy, hi ++ lo),
      ([0xE2, lo, hi], .jpo (hi ++ lo), !s.flags.p, hi ++ lo), ([0xEA, lo, hi], .jpe (hi ++ lo), s.flags.p, hi ++ lo),
      ([0xF2, lo, hi], .jp (hi ++ lo), !s.flags.s, hi ++ lo), ([0xFA, lo, hi], .jm (hi ++ lo), s.flags.s, hi ++ lo)] →
    s.Fits bytes.length →
    Encodes bytes i ∧ ∃ u, exec i s = .next u ∧
      (test = true → u = { s with pc := target }) ∧
      (test = false → u = { s with pc := u.pc, stop := u.stop } ∧ AdvancesBy bytes.length s u)

/-- CALL (R263) and the eight conditional calls (R265 to R272): taken, `trunc_16(pc + 3)` is pushed, high byte at SP-1, low byte
at SP-2, every other byte as before; not taken, the stack is untouched
and PC advances (decision D7 at the top of memory). -/
def Obligations.CallsPushTheReturnAddress : Prop :=
  ∀ (s : State) (lo hi : Byte) (bytes : List Byte) (i : Instr) (test : Bool),
    (bytes, i, test) ∈ [
      ([0xCD, lo, hi], Instr.call (hi ++ lo), true), ([0xC4, lo, hi], .cnz (hi ++ lo), !s.flags.z),
      ([0xCC, lo, hi], .cz (hi ++ lo), s.flags.z), ([0xD4, lo, hi], .cnc (hi ++ lo), !s.flags.cy),
      ([0xDC, lo, hi], .cc (hi ++ lo), s.flags.cy), ([0xE4, lo, hi], .cpo (hi ++ lo), !s.flags.p),
      ([0xEC, lo, hi], .cpe (hi ++ lo), s.flags.p), ([0xF4, lo, hi], .cp (hi ++ lo), !s.flags.s),
      ([0xFC, lo, hi], .cm (hi ++ lo), s.flags.s)] →
    s.Fits bytes.length → s.MemoryCanonical →
    Encodes bytes i ∧ ∃ u, exec i s = .next u ∧
      (test = true → u = { s with pc := hi ++ lo, sp := s.sp - 2, mem := u.mem } ∧
        StoresWord s u (s.sp - 2) (s.pc + 3)) ∧
      (test = false → u = { s with pc := u.pc, stop := u.stop } ∧ AdvancesBy bytes.length s u)

/-- RET (R273) and the eight conditional returns (R275 to R282): taken, the low byte comes from SP and the high byte from SP+1;
not taken, SP is unchanged and PC advances (decision D7 at the top of memory). -/
def Obligations.ReturnsPopTheTarget : Prop :=
  ∀ (s : State) (bytes : List Byte) (i : Instr) (test : Bool),
    (bytes, i, test) ∈ [
      ([0xC9], Instr.ret, true), ([0xC0], .rnz, !s.flags.z), ([0xC8], .rz, s.flags.z),
      ([0xD0], .rnc, !s.flags.cy), ([0xD8], .rc, s.flags.cy), ([0xE0], .rpo, !s.flags.p),
      ([0xE8], .rpe, s.flags.p), ([0xF0], .rp, !s.flags.s), ([0xF8], .rm, s.flags.s)] →
    Encodes bytes i ∧ ∃ u, exec i s = .next u ∧
      (test = true → u = { s with pc := s.memRead (s.sp + 1) ++ s.memRead s.sp, sp := s.sp + 2 }) ∧
      (test = false → u = { s with pc := u.pc, stop := u.stop } ∧ AdvancesBy bytes.length s u)

/-- RST 0 to RST 7 (R283, general knowledge in the spec; decision D3): push `trunc_16(pc + 1)` and go to 8*n. -/
def Obligations.RestartsCallEightTimesN : Prop :=
  ∀ (s : State) (op : Byte) (i : Instr) (n : Nat),
    (op, i, n) ∈ [(0xC7, Instr.rst0, 0), (0xCF, .rst1, 1), (0xD7, .rst2, 2), (0xDF, .rst3, 3),
      (0xE7, .rst4, 4), (0xEF, .rst5, 5), (0xF7, .rst6, 6), (0xFF, .rst7, 7)] →
    s.MemoryCanonical →
    Encodes [op] i ∧ ∃ u, exec i s = .next u ∧ u.pc.toNat = 8 * n ∧ StoresWord s u (s.sp - 2) (s.pc + 1) ∧
      u = { s with pc := u.pc, sp := s.sp - 2, mem := u.mem }

/-- PUSH B, D and H (R302); the order of the pair is the spec's decision D28. -/
def Obligations.PushStoresTheRegisterPair : Prop :=
  ∀ (s : State) (op : Byte) (i : Instr) (v : Word),
    (op, i, v) ∈ [(0xC5, Instr.pushB, s.b ++ s.c), (0xD5, .pushD, s.d ++ s.e), (0xE5, .pushH, s.h ++ s.l)] →
    s.MemoryCanonical →
    Encodes [op] i ∧ ∃ t, exec i s = .next t ∧ StoresWord s t (s.sp - 2) v ∧
      t = { s with sp := s.sp - 2, mem := t.mem, pc := t.pc, stop := t.stop }

/-- POP B, D and H (R304); the order of the pair is the spec's decision D28. -/
def Obligations.PopLoadsTheRegisterPair : Prop :=
  ∀ s : State,
    (Encodes [0xC1] .popB ∧ ∃ t, exec .popB s = .next t ∧
      t = { s with b := s.memRead (s.sp + 1), c := s.memRead s.sp, sp := s.sp + 2, pc := t.pc, stop := t.stop }) ∧
    (Encodes [0xD1] .popD ∧ ∃ t, exec .popD s = .next t ∧
      t = { s with d := s.memRead (s.sp + 1), e := s.memRead s.sp, sp := s.sp + 2, pc := t.pc, stop := t.stop }) ∧
    (Encodes [0xE1] .popH ∧ ∃ t, exec .popH s = .next t ∧
      t = { s with h := s.memRead (s.sp + 1), l := s.memRead s.sp, sp := s.sp + 2, pc := t.pc, stop := t.stop })

/-- PUSH PSW and POP PSW (R303, R305): the flags byte S Z 0 AC 0 P 1 CY at SP-1 and A at SP-2, the order of C6; the bit places
are general knowledge in the spec (R43) and the discarded bits its decision D22. -/
def Obligations.PswIsFlagsAboveA : Prop :=
  (∀ s : State, s.MemoryCanonical →
    Encodes [0xF5] .pushPSW ∧ ∃ t, exec .pushPSW s = .next t ∧
      t.memRead (s.sp - 2) = s.a ∧
      (t.memRead (s.sp - 1)).toNat = (if s.flags.s then 128 else 0) + (if s.flags.z then 64 else 0) +
        (if s.flags.ac then 16 else 0) + (if s.flags.p then 4 else 0) + 2 + (if s.flags.cy then 1 else 0) ∧
      (∀ x : Word, x ≠ s.sp - 1 → x ≠ s.sp - 2 → t.memRead x = s.memRead x) ∧
      t = { s with sp := s.sp - 2, mem := t.mem, pc := t.pc, stop := t.stop }) ∧
  (∀ s : State, Encodes [0xF1] .popPSW ∧ ∃ t, exec .popPSW s = .next t ∧
      t.a = s.memRead s.sp ∧
      t.flags.s = (s.memRead (s.sp + 1)).getLsbD 7 ∧ t.flags.z = (s.memRead (s.sp + 1)).getLsbD 6 ∧
      t.flags.ac = (s.memRead (s.sp + 1)).getLsbD 4 ∧ t.flags.p = (s.memRead (s.sp + 1)).getLsbD 2 ∧
      t.flags.cy = (s.memRead (s.sp + 1)).getLsbD 0 ∧
      t = { s with a := t.a, flags := t.flags, sp := s.sp + 2, pc := t.pc, stop := t.stop })

/-- XTHL (R306) and SPHL (R307). -/
def Obligations.XthlAndSphlUseHl : Prop :=
  ∀ s : State, s.MemoryCanonical →
    (Encodes [0xE3] .xthl ∧ ∃ t, exec .xthl s = .next t ∧ StoresWord s t s.sp (s.h ++ s.l) ∧
      t = { s with h := s.memRead (s.sp + 1), l := s.memRead s.sp, mem := t.mem, pc := t.pc, stop := t.stop }) ∧
    (Encodes [0xF9] .sphl ∧ ∃ t, exec .sphl s = .next t ∧
      t = { s with sp := s.h ++ s.l, pc := t.pc, stop := t.stop })

/-- A PUSH and then a POP of the same pair restores every register, the flags and SP (R308, R309), and pushes nest last-in
first-out (R310); both are derived in the spec. -/
def Obligations.PushThenPopRestoresThePair : Prop :=
  (∀ (s : State) (push pop : Instr),
    (push, pop) ∈ [(Instr.pushB, Instr.popB), (.pushD, .popD), (.pushH, .popH), (.pushPSW, .popPSW)] →
    s.MemoryCanonical →
    ∃ t u, exec push s = .next t ∧ exec pop t = .next u ∧
      u = { s with mem := u.mem, pc := u.pc, stop := u.stop } ∧
      (∀ x : Word, x ≠ s.sp - 1 → x ≠ s.sp - 2 → u.memRead x = s.memRead x) ∧ u.mem = t.mem) ∧
  (∀ s : State, s.MemoryCanonical →
    ∃ t1 t2 t3 t4, exec .pushB s = .next t1 ∧ exec .pushD t1 = .next t2 ∧ exec .popB t2 = .next t3 ∧
      exec .popD t3 = .next t4 ∧
      t4 = { s with b := s.d, c := s.e, d := s.b, e := s.c, mem := t4.mem, pc := t4.pc, stop := t4.stop })

/-- After a CALL and then a RET, PC is the address after the CALL, SP is as before and the two bytes below SP still hold the
return address (R285, derived in the spec). -/
def Obligations.CallThenReturnComesBack : Prop :=
  ∀ (s : State) (target : Word), s.MemoryCanonical → s.Fits 3 →
    ∃ t u, exec (.call target) s = .next t ∧ t.pc = target ∧ exec .ret t = .next u ∧
      u = { s with pc := s.pc + 3, mem := u.mem } ∧ StoresWord s u (s.sp - 2) (s.pc + 3)

/-- NOP (R390), EI (R392) and DI (R393). -/
def Obligations.NopEiAndDiDoNoMoreThanTheySay : Prop :=
  ∀ s : State,
    (Encodes [0x00] .nop ∧ ∃ t, exec .nop s = .next t ∧ t = { s with pc := t.pc, stop := t.stop }) ∧
    (Encodes [0xFB] .ei ∧ ∃ t, exec .ei s = .next t ∧ t = { s with inte := true, pc := t.pc, stop := t.stop }) ∧
    (Encodes [0xF3] .di ∧ ∃ t, exec .di s = .next t ∧ t = { s with inte := false, pc := t.pc, stop := t.stop })

/-- HLT (R391; decision D2), OUT (R394; decision D5) and IN (R395; decision D4). The byte IN reads is the free value of log
entry 3, which has no body, so the statement holds for every answer of the oracle; the count of IN steps is the model's own. -/
def Obligations.HltOutAndIn : Prop :=
  (∀ s : State, Encodes [0x76] .hlt ∧ exec .hlt s = .next { s with pc := s.pc + 1, stop := .halted }) ∧
  (∀ (s : State) (p : Byte), s.Fits 2 → Encodes [0xD3, p] (.outP8 p) ∧ ∃ t, exec (.outP8 p) s = .next t ∧
    t = { s with outLatch := s.a, pc := t.pc, stop := t.stop }) ∧
  (∀ (s : State) (p : Byte), s.Fits 2 → Encodes [0xDB, p] (.inP8 p) ∧ ∃ t, exec (.inP8 p) s = .next t ∧
    t.a = Config.input s.inCount p ∧ t.inCount = s.inCount + 1 ∧
    t = { s with a := t.a, inCount := t.inCount, pc := t.pc, stop := t.stop })

/-- No instruction outside the table of flag writers writes a flag (R42). -/
def Obligations.OnlyTheTableWritesFlags : Prop :=
  ∀ (i : Instr) (s t : State), exec i s = .next t →
    (i.writesSzap = false →
      t.flags.s = s.flags.s ∧ t.flags.z = s.flags.z ∧ t.flags.ac = s.flags.ac ∧ t.flags.p = s.flags.p) ∧
    (i.writesCarry = false → t.flags.cy = s.flags.cy)

/-- Which instructions write each register (R31), SP (R38), memory (R61), INTE (R45) and the output latch (R46); only IN advances
the model's count of IN steps (log entry 3). -/
def Obligations.OnlyTheListedInstructionsWriteTheRest : Prop :=
  ∀ (i : Instr) (s t : State), exec i s = .next t →
    (∀ r : Reg, r ∉ i.regsWritten → t.reg r = s.reg r) ∧
    (i.writesSp = false → t.sp = s.sp) ∧
    (i.writesMemory = false → ∀ x : Word, t.memRead x = s.memRead x) ∧
    (i ≠ .ei → i ≠ .di → t.inte = s.inte) ∧
    ((∀ p, i ≠ .outP8 p) → t.outLatch = s.outLatch) ∧
    ((∀ p, i ≠ .inP8 p) → t.inCount = s.inCount)

/-- No instruction reads INTE or the output latch (R45, R46, R52), and INTE does not change whether a step executes (R510): two
states that differ in these only step to states that differ in these only. For IN the two steps read the same byte because the
oracle is a function of the count of IN steps and the port, which is the model's choice (log entry 3, DESIGN CHOICE). -/
def Obligations.InteAndLatchDoNotInfluenceExecution : Prop :=
  ∀ s1 s2 t1 t2 : State, s1.HidingInteAndLatch = s2.HidingInteAndLatch →
    step s1 = .next t1 → step s2 = .next t2 → t1.HidingInteAndLatch = t2.HidingInteAndLatch

/-- Reset (R601, R602) for every SP_RESET: the defaults of R50 (decisions D9 to D12 and D26), memory untouched, `Halted` becomes
`Running` and the other values of STOP stay (decision D19). -/
def Obligations.ResetRestoresTheDefaults : Prop :=
  ∀ (s : State) (spReset : Config.SpReset),
    (∀ r : Reg, (hostResetWith spReset s).reg r = 0x00) ∧
    (hostResetWith spReset s).flags = { s := false, z := false, ac := false, p := false, cy := false } ∧
    (hostResetWith spReset s).pc = 0x0000 ∧ (hostResetWith spReset s).sp = spReset.val ∧
    (hostResetWith spReset s).inte = false ∧ (hostResetWith spReset s).outLatch = 0x00 ∧
    (hostResetWith spReset s).mem = s.mem ∧
    (hostResetWith spReset s).stop = (if s.stop = .halted then .running else s.stop)

/-- Construction (R600, R504) for every value of the open parameters SP_RESET and MEM_INIT: the image at 0, MEM_INIT after it, the
rest at its defaults; an image longer than the address space makes no processor (decision D14). -/
def Obligations.ConstructionPlacesTheImage : Prop :=
  ∀ (spReset : Config.SpReset) (memInit : Nat → Byte) (image : List Byte),
    (image.length ≤ 65536 → ∃ s, constructWith spReset memInit image = .ok s ∧
      (∀ x : Word, s.memRead x = image.getD x.toNat (memInit x.toNat)) ∧
      s.MemoryCanonical ∧ s = { State.reset with sp := spReset.val, mem := s.mem }) ∧
    (65536 < image.length → constructWith spReset memInit image = .error .imageTooLong)

/-- The fast form of construction is construction with the values that State.reset takes for the open parameters (log entries 1
and 2), and the empty image gives State.reset. -/
def Obligations.FastConstructionAgrees : Prop :=
  ∀ image : List Byte,
    construct image = constructWith Config.spReset (fun _ => Config.memInitByte) image ∧
    construct [] = .ok State.reset

/-- Peek (R156; decision D21): the listing of a count above 0 begins with PC and what is decoded there; each entry is the result
of decoding at its address (R106), `Illegal` exactly for the twelve illegal bytes (decision D1), the addresses follow by the
lengths modulo 2^16, and the listing stops after an illegal byte or at the count. -/
def Obligations.PeekFollowsTheSequentialLayout : Prop :=
  ∀ (s : State) (k : Nat),
    (0 < k → (peek k s)[0]? = some (s.pc, describe (s.memRead s.pc) (s.memRead (s.pc + 1)) (s.memRead (s.pc + 2)))) ∧
    ∀ (n : Nat) (a : Word) (d : Decoded), (peek k s)[n]? = some (a, d) →
      n < k ∧ d = describe (s.memRead a) (s.memRead (a + 1)) (s.memRead (a + 2)) ∧
      a = s.pc + BitVec.ofNat 16 (((peek k s).take n).map fun e => e.2.length).sum ∧
      (∀ e ∈ (peek k s).take n, e.2.isIllegal = false) ∧
      (d.isIllegal = true ↔ s.memRead a ∈ illegalBytes) ∧
      (d.isIllegal = false → n + 1 < k → n + 1 < (peek k s).length) ∧
      (d.isIllegal = true → (peek k s).length = n + 1) ∧
      (∀ e, d = .descriptor e → e.opcode = s.memRead a ∧ e.b1 = s.memRead (a + 1) ∧ e.b2 = s.memRead (a + 2) ∧
        e.selectors.length ≤ 2 ∧ d.length = (decode e.opcode e.b1 e.b2).length)

/-- The host operations (R152 to R157): snapshot (R153), read and peek change nothing and reply with what they read; the clock rate
changes itself only, and no step (R140); reset gives the defaults with the session's SP_RESET and leaves memory and the rate
(R154, R601, R602; decisions D9 to D12, D19 and D26); a write changes one byte; advance performs one step and returns STOP
(R142). No operation changes SP_RESET (decision D10). The forms of Session, Request and Reply are the model's (log entries 6
and 8), and so is the count of IN steps that a reset keeps (log entry 3). -/
def Obligations.HostOperationsTouchOnlyTheirPart : Prop :=
  ∀ (x : Session) (a : Word) (v : Byte) (k : Nat) (rate : NNRat),
    (∃ r : Snapshot, x.serve .snapshot = (x, .snapshot r) ∧
      r.a = x.proc.a ∧ r.b = x.proc.b ∧ r.c = x.proc.c ∧ r.d = x.proc.d ∧ r.e = x.proc.e ∧ r.h = x.proc.h ∧
      r.l = x.proc.l ∧ r.flags = x.proc.flags ∧ r.pc = x.proc.pc ∧ r.sp = x.proc.sp ∧
      r.outLatch = x.proc.outLatch ∧ r.inte = x.proc.inte ∧ r.stop = x.proc.stop) ∧
    x.serve (.readByte a) = (x, .byte (x.proc.memRead a)) ∧
    x.serve (.peek k) = (x, .listing (peek k x.proc)) ∧
    x.serve (.setClockRate rate) = ({ x with clockRate := some rate }, .done) ∧
    (∃ t : State, x.serve .reset = ({ x with proc := t }, .done) ∧
      t = { State.reset with sp := x.spReset.val, stop := t.stop, mem := x.proc.mem, inCount := x.proc.inCount } ∧
      t.stop = if x.proc.stop = .halted then .running else x.proc.stop) ∧
    (∃ t : State, x.serve (.writeByte a v) = ({ x with proc := t }, .done) ∧ t = { x.proc with mem := t.mem } ∧
      (x.proc.MemoryCanonical → StoresByte x.proc t a v)) ∧
    (∃ t : State, step x.proc = .next t ∧ x.serve .advance = ({ x with proc := t }, .stop t.stop) ∧
      ({ x with clockRate := some rate } : Session).serve .advance =
        ({ x with clockRate := some rate, proc := t }, .stop t.stop))
end

