-- ==== Sys2Proof/Laws/Decode.lean ====
section
/-! SUPPORT. The laws of decoding: what a byte sequence encodes, by its length, that an illegal byte decodes to itself,
and what the descriptor holds. -/

namespace Sys2Proof

theorem decodeBytes_cons (b0 : Byte) (rest : List Byte) :
    decodeBytes (b0 :: rest) = decode b0 (rest.getD 0 0x00) (rest.getD 1 0x00) := rfl

/-- A one-byte word encodes `i` when its byte decodes to `i` whatever follows. -/
theorem encodes_one {b0 : Byte} {i : Instr} : Machine.Encodes [b0] i ↔ ∀ b1 b2, decode b0 b1 b2 = i :=
  ⟨fun h b1 b2 => h [b1, b2], fun h _ => h _ _⟩

/-- A two-byte word encodes `i` when it decodes to `i` whatever follows. -/
theorem encodes_two {b0 b1 : Byte} {i : Instr} : Machine.Encodes [b0, b1] i ↔ ∀ b2, decode b0 b1 b2 = i :=
  ⟨fun h b2 => h [b2], fun h _ => h _⟩

/-- A three-byte word encodes `i` when it decodes to `i`. -/
theorem encodes_three {b0 b1 b2 : Byte} {i : Instr} : Machine.Encodes [b0, b1, b2] i ↔ decode b0 b1 b2 = i :=
  ⟨fun h => h [], fun h _ => h⟩

/-- An illegal byte decodes to itself. -/
theorem decode_illegal {op : Byte} (h : op ∈ illegalBytes) (b1 b2 : Byte) : decode op b1 b2 = .illegal op := by
  simp only [illegalBytes, List.mem_cons, List.not_mem_nil, or_false] at h
  rcases h with h | h | h | h | h | h | h | h | h | h | h | h <;> rw [h] <;> rfl

/-- A length is 1, 2 or 3 (R90). -/
theorem Instr.length_bounds (i : Instr) : 1 ≤ i.length ∧ i.length ≤ 3 := by
  unfold Instr.length
  cases i.mode <;> decide

/-! The descriptor (R106). -/

/-- Only ILLEGAL has no kind. -/
theorem Instr.kind_eq_none {i : Instr} : i.kind = none ↔ ∃ op, i = .illegal op := by
  cases i <;> simp [Instr.kind]

/-- A mnemonic has at most two selectors. -/
theorem Kind.fields_length_le (k : Kind) : k.fields.length ≤ 2 := by
  cases k <;> decide

/-- What does not decode to ILLEGAL is described by its bytes, kind, mode and selectors. -/
theorem describe_of_kind {b0 b1 b2 : Byte} {k : Kind} (h : (decode b0 b1 b2).kind = some k) :
    describe b0 b1 b2 = .descriptor
      { opcode := b0, b1 := b1, b2 := b2, kind := k, mode := (decode b0 b1 b2).mode,
        selectors := k.fields.map (OpcodeField.select b0) } := by
  simp only [describe, h]

/-- An illegal byte is described as `Illegal`. -/
theorem describe_illegal {op : Byte} (h : op ∈ illegalBytes) (b1 b2 : Byte) : describe op b1 b2 = .illegal op := by
  simp only [describe, decode_illegal h, Instr.kind]

/-- `Illegal` is the description of what has no kind. -/
theorem describe_isIllegal (b0 b1 b2 : Byte) : (describe b0 b1 b2).isIllegal = (decode b0 b1 b2).kind.isNone := by
  unfold describe
  split <;> rename_i h <;> rw [h] <;> rfl

/-- The length of what is described is that of the instruction. -/
theorem describe_length (b0 b1 b2 : Byte) : (describe b0 b1 b2).length = (decode b0 b1 b2).length := by
  unfold describe
  split
  · rename_i h
    obtain ⟨op, h⟩ := Instr.kind_eq_none.mp h
    rw [h]
    rfl
  · rfl

end Sys2Proof
end

