-- ==== Sys2Proof/Laws/State.lean ====
section
/-! SUPPORT. What each named update does to each field of State: one lemma per field per update, for simp. -/

namespace Sys2Proof.Machine

/-- Two states are equal when all their fields are. -/
theorem State.ext_fields {s t : State} (ha : s.a = t.a) (hb : s.b = t.b) (hc : s.c = t.c) (hd : s.d = t.d)
    (he : s.e = t.e) (hh : s.h = t.h) (hl : s.l = t.l) (hf : s.flags = t.flags) (hpc : s.pc = t.pc)
    (hsp : s.sp = t.sp) (hi : s.inte = t.inte) (ho : s.outLatch = t.outLatch) (hst : s.stop = t.stop)
    (hm : s.mem = t.mem) (hn : s.inCount = t.inCount) : s = t := by
  cases s; cases t; simp_all

/-! `State.memWrite`. -/

@[simp] theorem State.memWrite_a (s : State) (x : Word) (v : Byte) : (s.memWrite x v).a = s.a := rfl
@[simp] theorem State.memWrite_b (s : State) (x : Word) (v : Byte) : (s.memWrite x v).b = s.b := rfl
@[simp] theorem State.memWrite_c (s : State) (x : Word) (v : Byte) : (s.memWrite x v).c = s.c := rfl
@[simp] theorem State.memWrite_d (s : State) (x : Word) (v : Byte) : (s.memWrite x v).d = s.d := rfl
@[simp] theorem State.memWrite_e (s : State) (x : Word) (v : Byte) : (s.memWrite x v).e = s.e := rfl
@[simp] theorem State.memWrite_h (s : State) (x : Word) (v : Byte) : (s.memWrite x v).h = s.h := rfl
@[simp] theorem State.memWrite_l (s : State) (x : Word) (v : Byte) : (s.memWrite x v).l = s.l := rfl
@[simp] theorem State.memWrite_flags (s : State) (x : Word) (v : Byte) : (s.memWrite x v).flags = s.flags := rfl
@[simp] theorem State.memWrite_pc (s : State) (x : Word) (v : Byte) : (s.memWrite x v).pc = s.pc := rfl
@[simp] theorem State.memWrite_sp (s : State) (x : Word) (v : Byte) : (s.memWrite x v).sp = s.sp := rfl
@[simp] theorem State.memWrite_inte (s : State) (x : Word) (v : Byte) : (s.memWrite x v).inte = s.inte := rfl
@[simp] theorem State.memWrite_outLatch (s : State) (x : Word) (v : Byte) : (s.memWrite x v).outLatch = s.outLatch := rfl
@[simp] theorem State.memWrite_stop (s : State) (x : Word) (v : Byte) : (s.memWrite x v).stop = s.stop := rfl
@[simp] theorem State.memWrite_mem (s : State) (x : Word) (v : Byte) : (s.memWrite x v).mem = s.mem.write x.toNat v := rfl
@[simp] theorem State.memWrite_inCount (s : State) (x : Word) (v : Byte) : (s.memWrite x v).inCount = s.inCount := rfl

/-! `State.memWrite16`. -/

@[simp] theorem State.memWrite16_a (s : State) (x : Word) (v : Word) : (s.memWrite16 x v).a = s.a := rfl
@[simp] theorem State.memWrite16_b (s : State) (x : Word) (v : Word) : (s.memWrite16 x v).b = s.b := rfl
@[simp] theorem State.memWrite16_c (s : State) (x : Word) (v : Word) : (s.memWrite16 x v).c = s.c := rfl
@[simp] theorem State.memWrite16_d (s : State) (x : Word) (v : Word) : (s.memWrite16 x v).d = s.d := rfl
@[simp] theorem State.memWrite16_e (s : State) (x : Word) (v : Word) : (s.memWrite16 x v).e = s.e := rfl
@[simp] theorem State.memWrite16_h (s : State) (x : Word) (v : Word) : (s.memWrite16 x v).h = s.h := rfl
@[simp] theorem State.memWrite16_l (s : State) (x : Word) (v : Word) : (s.memWrite16 x v).l = s.l := rfl
@[simp] theorem State.memWrite16_flags (s : State) (x : Word) (v : Word) : (s.memWrite16 x v).flags = s.flags := rfl
@[simp] theorem State.memWrite16_pc (s : State) (x : Word) (v : Word) : (s.memWrite16 x v).pc = s.pc := rfl
@[simp] theorem State.memWrite16_sp (s : State) (x : Word) (v : Word) : (s.memWrite16 x v).sp = s.sp := rfl
@[simp] theorem State.memWrite16_inte (s : State) (x : Word) (v : Word) : (s.memWrite16 x v).inte = s.inte := rfl
@[simp] theorem State.memWrite16_outLatch (s : State) (x : Word) (v : Word) : (s.memWrite16 x v).outLatch = s.outLatch := rfl
@[simp] theorem State.memWrite16_stop (s : State) (x : Word) (v : Word) : (s.memWrite16 x v).stop = s.stop := rfl
@[simp] theorem State.memWrite16_inCount (s : State) (x : Word) (v : Word) : (s.memWrite16 x v).inCount = s.inCount := rfl

/-! `State.setReg`. -/

@[simp] theorem State.setReg_flags (s : State) (r : Reg) (v : Byte) : (s.setReg r v).flags = s.flags := by cases r <;> rfl
@[simp] theorem State.setReg_pc (s : State) (r : Reg) (v : Byte) : (s.setReg r v).pc = s.pc := by cases r <;> rfl
@[simp] theorem State.setReg_sp (s : State) (r : Reg) (v : Byte) : (s.setReg r v).sp = s.sp := by cases r <;> rfl
@[simp] theorem State.setReg_inte (s : State) (r : Reg) (v : Byte) : (s.setReg r v).inte = s.inte := by cases r <;> rfl
@[simp] theorem State.setReg_outLatch (s : State) (r : Reg) (v : Byte) : (s.setReg r v).outLatch = s.outLatch := by cases r <;> rfl
@[simp] theorem State.setReg_stop (s : State) (r : Reg) (v : Byte) : (s.setReg r v).stop = s.stop := by cases r <;> rfl
@[simp] theorem State.setReg_mem (s : State) (r : Reg) (v : Byte) : (s.setReg r v).mem = s.mem := by cases r <;> rfl
@[simp] theorem State.setReg_inCount (s : State) (r : Reg) (v : Byte) : (s.setReg r v).inCount = s.inCount := by cases r <;> rfl

/-! `State.setPair`. -/

@[simp] theorem State.setPair_a (s : State) (p : Pair) (v : Word) : (s.setPair p v).a = s.a := by cases p <;> rfl
@[simp] theorem State.setPair_flags (s : State) (p : Pair) (v : Word) : (s.setPair p v).flags = s.flags := by cases p <;> rfl
@[simp] theorem State.setPair_pc (s : State) (p : Pair) (v : Word) : (s.setPair p v).pc = s.pc := by cases p <;> rfl
@[simp] theorem State.setPair_inte (s : State) (p : Pair) (v : Word) : (s.setPair p v).inte = s.inte := by cases p <;> rfl
@[simp] theorem State.setPair_outLatch (s : State) (p : Pair) (v : Word) : (s.setPair p v).outLatch = s.outLatch := by cases p <;> rfl
@[simp] theorem State.setPair_stop (s : State) (p : Pair) (v : Word) : (s.setPair p v).stop = s.stop := by cases p <;> rfl
@[simp] theorem State.setPair_mem (s : State) (p : Pair) (v : Word) : (s.setPair p v).mem = s.mem := by cases p <;> rfl
@[simp] theorem State.setPair_inCount (s : State) (p : Pair) (v : Word) : (s.setPair p v).inCount = s.inCount := by cases p <;> rfl

/-! `State.setStackPair`. -/

@[simp] theorem State.setStackPair_pc (s : State) (p : StackPair) (v : Word) : (s.setStackPair p v).pc = s.pc := by cases p <;> rfl
@[simp] theorem State.setStackPair_sp (s : State) (p : StackPair) (v : Word) : (s.setStackPair p v).sp = s.sp := by cases p <;> rfl
@[simp] theorem State.setStackPair_inte (s : State) (p : StackPair) (v : Word) : (s.setStackPair p v).inte = s.inte := by cases p <;> rfl
@[simp] theorem State.setStackPair_outLatch (s : State) (p : StackPair) (v : Word) : (s.setStackPair p v).outLatch = s.outLatch := by cases p <;> rfl
@[simp] theorem State.setStackPair_stop (s : State) (p : StackPair) (v : Word) : (s.setStackPair p v).stop = s.stop := by cases p <;> rfl
@[simp] theorem State.setStackPair_mem (s : State) (p : StackPair) (v : Word) : (s.setStackPair p v).mem = s.mem := by cases p <;> rfl
@[simp] theorem State.setStackPair_inCount (s : State) (p : StackPair) (v : Word) : (s.setStackPair p v).inCount = s.inCount := by cases p <;> rfl

/-! `State.setOperand`. -/

@[simp] theorem State.setOperand_flags (s : State) (o : Operand) (v : Byte) : (s.setOperand o v).flags = s.flags := by cases o <;> simp [State.setOperand]
@[simp] theorem State.setOperand_pc (s : State) (o : Operand) (v : Byte) : (s.setOperand o v).pc = s.pc := by cases o <;> simp [State.setOperand]
@[simp] theorem State.setOperand_sp (s : State) (o : Operand) (v : Byte) : (s.setOperand o v).sp = s.sp := by cases o <;> simp [State.setOperand]
@[simp] theorem State.setOperand_inte (s : State) (o : Operand) (v : Byte) : (s.setOperand o v).inte = s.inte := by cases o <;> simp [State.setOperand]
@[simp] theorem State.setOperand_outLatch (s : State) (o : Operand) (v : Byte) : (s.setOperand o v).outLatch = s.outLatch := by cases o <;> simp [State.setOperand]
@[simp] theorem State.setOperand_stop (s : State) (o : Operand) (v : Byte) : (s.setOperand o v).stop = s.stop := by cases o <;> simp [State.setOperand]
@[simp] theorem State.setOperand_inCount (s : State) (o : Operand) (v : Byte) : (s.setOperand o v).inCount = s.inCount := by cases o <;> simp [State.setOperand]

/-! `push16`. -/

@[simp] theorem push16_a (v : Word) (s : State) : (push16 v s).a = s.a := rfl
@[simp] theorem push16_b (v : Word) (s : State) : (push16 v s).b = s.b := rfl
@[simp] theorem push16_c (v : Word) (s : State) : (push16 v s).c = s.c := rfl
@[simp] theorem push16_d (v : Word) (s : State) : (push16 v s).d = s.d := rfl
@[simp] theorem push16_e (v : Word) (s : State) : (push16 v s).e = s.e := rfl
@[simp] theorem push16_h (v : Word) (s : State) : (push16 v s).h = s.h := rfl
@[simp] theorem push16_l (v : Word) (s : State) : (push16 v s).l = s.l := rfl
@[simp] theorem push16_flags (v : Word) (s : State) : (push16 v s).flags = s.flags := rfl
@[simp] theorem push16_pc (v : Word) (s : State) : (push16 v s).pc = s.pc := rfl
@[simp] theorem push16_sp (v : Word) (s : State) : (push16 v s).sp = s.sp - 2 := rfl
@[simp] theorem push16_inte (v : Word) (s : State) : (push16 v s).inte = s.inte := rfl
@[simp] theorem push16_outLatch (v : Word) (s : State) : (push16 v s).outLatch = s.outLatch := rfl
@[simp] theorem push16_stop (v : Word) (s : State) : (push16 v s).stop = s.stop := rfl
@[simp] theorem push16_inCount (v : Word) (s : State) : (push16 v s).inCount = s.inCount := rfl

/-! `dropTop`. -/

@[simp] theorem dropTop_a (s : State) : (dropTop s).a = s.a := rfl
@[simp] theorem dropTop_b (s : State) : (dropTop s).b = s.b := rfl
@[simp] theorem dropTop_c (s : State) : (dropTop s).c = s.c := rfl
@[simp] theorem dropTop_d (s : State) : (dropTop s).d = s.d := rfl
@[simp] theorem dropTop_e (s : State) : (dropTop s).e = s.e := rfl
@[simp] theorem dropTop_h (s : State) : (dropTop s).h = s.h := rfl
@[simp] theorem dropTop_l (s : State) : (dropTop s).l = s.l := rfl
@[simp] theorem dropTop_flags (s : State) : (dropTop s).flags = s.flags := rfl
@[simp] theorem dropTop_pc (s : State) : (dropTop s).pc = s.pc := rfl
@[simp] theorem dropTop_sp (s : State) : (dropTop s).sp = s.sp + 2 := rfl
@[simp] theorem dropTop_inte (s : State) : (dropTop s).inte = s.inte := rfl
@[simp] theorem dropTop_outLatch (s : State) : (dropTop s).outLatch = s.outLatch := rfl
@[simp] theorem dropTop_stop (s : State) : (dropTop s).stop = s.stop := rfl
@[simp] theorem dropTop_mem (s : State) : (dropTop s).mem = s.mem := rfl
@[simp] theorem dropTop_inCount (s : State) : (dropTop s).inCount = s.inCount := rfl

/-! `stopAtEnd`. -/

@[simp] theorem stopAtEnd_a (s : State) : (stopAtEnd s).a = s.a := rfl
@[simp] theorem stopAtEnd_b (s : State) : (stopAtEnd s).b = s.b := rfl
@[simp] theorem stopAtEnd_c (s : State) : (stopAtEnd s).c = s.c := rfl
@[simp] theorem stopAtEnd_d (s : State) : (stopAtEnd s).d = s.d := rfl
@[simp] theorem stopAtEnd_e (s : State) : (stopAtEnd s).e = s.e := rfl
@[simp] theorem stopAtEnd_h (s : State) : (stopAtEnd s).h = s.h := rfl
@[simp] theorem stopAtEnd_l (s : State) : (stopAtEnd s).l = s.l := rfl
@[simp] theorem stopAtEnd_flags (s : State) : (stopAtEnd s).flags = s.flags := rfl
@[simp] theorem stopAtEnd_pc (s : State) : (stopAtEnd s).pc = s.pc := rfl
@[simp] theorem stopAtEnd_sp (s : State) : (stopAtEnd s).sp = s.sp := rfl
@[simp] theorem stopAtEnd_inte (s : State) : (stopAtEnd s).inte = s.inte := rfl
@[simp] theorem stopAtEnd_outLatch (s : State) : (stopAtEnd s).outLatch = s.outLatch := rfl
@[simp] theorem stopAtEnd_stop (s : State) : (stopAtEnd s).stop = .endOfAddressSpace := rfl
@[simp] theorem stopAtEnd_mem (s : State) : (stopAtEnd s).mem = s.mem := rfl
@[simp] theorem stopAtEnd_inCount (s : State) : (stopAtEnd s).inCount = s.inCount := rfl

/-! `raiseDecodeFault`. -/

@[simp] theorem raiseDecodeFault_a (op : Byte) (s : State) : (raiseDecodeFault op s).a = s.a := rfl
@[simp] theorem raiseDecodeFault_b (op : Byte) (s : State) : (raiseDecodeFault op s).b = s.b := rfl
@[simp] theorem raiseDecodeFault_c (op : Byte) (s : State) : (raiseDecodeFault op s).c = s.c := rfl
@[simp] theorem raiseDecodeFault_d (op : Byte) (s : State) : (raiseDecodeFault op s).d = s.d := rfl
@[simp] theorem raiseDecodeFault_e (op : Byte) (s : State) : (raiseDecodeFault op s).e = s.e := rfl
@[simp] theorem raiseDecodeFault_h (op : Byte) (s : State) : (raiseDecodeFault op s).h = s.h := rfl
@[simp] theorem raiseDecodeFault_l (op : Byte) (s : State) : (raiseDecodeFault op s).l = s.l := rfl
@[simp] theorem raiseDecodeFault_flags (op : Byte) (s : State) : (raiseDecodeFault op s).flags = s.flags := rfl
@[simp] theorem raiseDecodeFault_pc (op : Byte) (s : State) : (raiseDecodeFault op s).pc = s.pc := rfl
@[simp] theorem raiseDecodeFault_sp (op : Byte) (s : State) : (raiseDecodeFault op s).sp = s.sp := rfl
@[simp] theorem raiseDecodeFault_inte (op : Byte) (s : State) : (raiseDecodeFault op s).inte = s.inte := rfl
@[simp] theorem raiseDecodeFault_outLatch (op : Byte) (s : State) : (raiseDecodeFault op s).outLatch = s.outLatch := rfl
@[simp] theorem raiseDecodeFault_stop (op : Byte) (s : State) : (raiseDecodeFault op s).stop = .faulted .decodeFailure op s.pc := rfl
@[simp] theorem raiseDecodeFault_mem (op : Byte) (s : State) : (raiseDecodeFault op s).mem = s.mem := rfl
@[simp] theorem raiseDecodeFault_inCount (op : Byte) (s : State) : (raiseDecodeFault op s).inCount = s.inCount := rfl

/-! `hostResetWith`. -/

@[simp] theorem hostResetWith_a (v : Config.SpReset) (s : State) : (hostResetWith v s).a = 0x00 := rfl
@[simp] theorem hostResetWith_b (v : Config.SpReset) (s : State) : (hostResetWith v s).b = 0x00 := rfl
@[simp] theorem hostResetWith_c (v : Config.SpReset) (s : State) : (hostResetWith v s).c = 0x00 := rfl
@[simp] theorem hostResetWith_d (v : Config.SpReset) (s : State) : (hostResetWith v s).d = 0x00 := rfl
@[simp] theorem hostResetWith_e (v : Config.SpReset) (s : State) : (hostResetWith v s).e = 0x00 := rfl
@[simp] theorem hostResetWith_h (v : Config.SpReset) (s : State) : (hostResetWith v s).h = 0x00 := rfl
@[simp] theorem hostResetWith_l (v : Config.SpReset) (s : State) : (hostResetWith v s).l = 0x00 := rfl
@[simp] theorem hostResetWith_flags (v : Config.SpReset) (s : State) : (hostResetWith v s).flags = Flags.reset := rfl
@[simp] theorem hostResetWith_pc (v : Config.SpReset) (s : State) : (hostResetWith v s).pc = 0x0000 := rfl
@[simp] theorem hostResetWith_sp (v : Config.SpReset) (s : State) : (hostResetWith v s).sp = v.val := rfl
@[simp] theorem hostResetWith_inte (v : Config.SpReset) (s : State) : (hostResetWith v s).inte = false := rfl
@[simp] theorem hostResetWith_outLatch (v : Config.SpReset) (s : State) : (hostResetWith v s).outLatch = 0x00 := rfl
@[simp] theorem hostResetWith_stop (v : Config.SpReset) (s : State) : (hostResetWith v s).stop = resetStop s.stop := rfl
@[simp] theorem hostResetWith_mem (v : Config.SpReset) (s : State) : (hostResetWith v s).mem = s.mem := rfl
@[simp] theorem hostResetWith_inCount (v : Config.SpReset) (s : State) : (hostResetWith v s).inCount = s.inCount := rfl

/-! Registers. -/

@[simp] theorem State.reg_setReg_same (s : State) (r : Reg) (v : Byte) : (s.setReg r v).reg r = v := by
  cases r <;> rfl

theorem State.reg_setReg_ne (s : State) (r q : Reg) (v : Byte) (h : q ≠ r) : (s.setReg r v).reg q = s.reg q := by
  cases r <;> cases q <;> first | rfl | exact absurd rfl h

@[simp] theorem State.reg_memWrite (s : State) (x : Word) (v : Byte) (r : Reg) :
    (s.memWrite x v).reg r = s.reg r := by cases r <;> rfl

@[simp] theorem State.reg_push16 (v : Word) (s : State) (r : Reg) : (push16 v s).reg r = s.reg r := by
  cases r <;> rfl

@[simp] theorem State.reg_dropTop (s : State) (r : Reg) : (dropTop s).reg r = s.reg r := by cases r <;> rfl

@[simp] theorem State.reg_stopAtEnd (s : State) (r : Reg) : (stopAtEnd s).reg r = s.reg r := by cases r <;> rfl

/-! The byte order of a word (R9, R34). -/

theorem getLsbD_joinBytes (hi lo : Byte) (i : Nat) :
    (joinBytes hi lo).getLsbD i = if i < 8 then lo.getLsbD i else hi.getLsbD (i - 8) := by
  show (hi ++ lo : BitVec (8 + 8)).getLsbD i = _
  rw [BitVec.getLsbD_append]

theorem toNat_joinBytes (hi lo : Byte) : (joinBytes hi lo).toNat = hi.toNat * 256 + lo.toNat := by
  show (hi ++ lo : BitVec (8 + 8)).toNat = _
  rw [BitVec.toNat_append, ← Nat.shiftLeft_add_eq_or_of_lt lo.isLt, Nat.shiftLeft_eq]

@[simp] theorem highByte_joinBytes (hi lo : Byte) : highByte (joinBytes hi lo) = hi := by
  apply BitVec.eq_of_getLsbD_eq
  intro i h
  simp [highByte, getLsbD_joinBytes, h]

@[simp] theorem lowByte_joinBytes (hi lo : Byte) : lowByte (joinBytes hi lo) = lo := by
  apply BitVec.eq_of_getLsbD_eq
  intro i h
  simp [lowByte, getLsbD_joinBytes, h]

@[simp] theorem joinBytes_high_low (v : Word) : joinBytes (highByte v) (lowByte v) = v := by
  apply BitVec.eq_of_getLsbD_eq
  intro i h
  rw [getLsbD_joinBytes]
  split
  · next h8 => simp [lowByte, h8]
  · next h8 =>
    have : i - 8 < 8 := by omega
    simp [highByte, this, show 8 + (i - 8) = i by omega]

@[simp] theorem State.pair_setPair_same (s : State) (p : Pair) (v : Word) : (s.setPair p v).pair p = v := by
  cases p <;> simp [State.setPair, State.pair]

end Sys2Proof.Machine
end

