-- ==== Sys2Proof/Laws/Memory.lean ====
section
/-! SUPPORT. The laws of memory: a read after a write, and that every memory operation keeps the canonical form. -/

namespace Sys2Proof.Machine

/-! The canonical form. -/

theorem Memory.wfFrom_nil (lo : Nat) : Memory.wfFrom lo [] = true := rfl

theorem Memory.wfFrom_cons {lo k : Nat} {v : Byte} {rest : Memory} :
    Memory.wfFrom lo ((k, v) :: rest) = true ↔
      lo ≤ k ∧ k < Config.memorySize ∧ v ≠ Config.memInitByte ∧ Memory.wfFrom (k + 1) rest = true := by
  simp [Memory.wfFrom, and_assoc]

/-- A canonical memory is canonical from any lower address on. -/
theorem Memory.wfFrom_mono {lo lo' : Nat} (h : lo' ≤ lo) : ∀ {m : Memory}, Memory.wfFrom lo m = true →
    Memory.wfFrom lo' m = true
  | [], _ => rfl
  | (_, _) :: _, hm => by
    rw [Memory.wfFrom_cons] at hm ⊢
    exact ⟨h.trans hm.1, hm.2⟩

/-- An address below all listed ones is not listed. -/
theorem Memory.read_below : ∀ {m : Memory} {lo a : Nat}, Memory.wfFrom lo m = true → a < lo →
    Memory.read m a = Config.memInitByte
  | [], _, _, _, _ => rfl
  | (k, v) :: rest, lo, a, hm, ha => by
    rw [Memory.wfFrom_cons] at hm
    have hk : k ≠ a := by omega
    simp only [Memory.read, if_neg hk]
    exact Memory.read_below hm.2.2.2 (by omega)

/-- Writing an address of the address space at or above `lo` keeps the canonical form from `lo` on. -/
theorem Memory.wfFrom_write : ∀ {m : Memory} {lo a : Nat} (v : Byte), Memory.wfFrom lo m = true → lo ≤ a →
    a < Config.memorySize → Memory.wfFrom lo (m.write a v) = true
  | [], lo, a, v, _, ha, hs => by
    by_cases hv : v = Config.memInitByte
    · simp [Memory.write, hv, Memory.wfFrom]
    · rw [Memory.write, if_neg hv, Memory.wfFrom_cons]
      exact ⟨ha, hs, hv, rfl⟩
  | (k, w) :: rest, lo, a, v, hm, ha, hs => by
    have hc := Memory.wfFrom_cons.mp hm
    unfold Memory.write
    split
    · split
      · exact hm
      · next h1 hv => exact Memory.wfFrom_cons.mpr ⟨ha, hs, hv, Memory.wfFrom_cons.mpr ⟨by omega, hc.2⟩⟩
    · split
      · next h1 h2 =>
        split
        · exact Memory.wfFrom_mono (by omega) hc.2.2.2
        · next hv => exact Memory.wfFrom_cons.mpr ⟨ha, hs, hv, by simpa [h2] using hc.2.2.2⟩
      · next h1 h2 =>
        exact Memory.wfFrom_cons.mpr ⟨hc.1, hc.2.1, hc.2.2.1, Memory.wfFrom_write v hc.2.2.2 (by omega) hs⟩

/-- Every write of the machine keeps the canonical form. -/
theorem State.memWrite_wf {s : State} (h : s.mem.wf = true) (a : Word) (v : Byte) :
    (s.memWrite a v).mem.wf = true :=
  Memory.wfFrom_write v h (Nat.zero_le _) a.isLt

theorem State.memWrite16_wf {s : State} (h : s.mem.wf = true) (a : Word) (v : Word) :
    (s.memWrite16 a v).mem.wf = true :=
  State.memWrite_wf (State.memWrite_wf h _ _) _ _

theorem push16_wf {s : State} (h : s.mem.wf = true) (v : Word) : (push16 v s).mem.wf = true :=
  State.memWrite_wf (State.memWrite_wf h _ _) _ _

/-- The memory of a state whose memory came through an operand write is canonical. -/
theorem State.setOperand_wf {s : State} (h : s.mem.wf = true) (o : Operand) (v : Byte) :
    (s.setOperand o v).mem.wf = true := by
  cases o with
  | reg r => simpa [State.setOperand] using h
  | m => exact State.memWrite_wf h _ _

/-- The memory that construction tabulates is canonical. -/
theorem Memory.wfFrom_tabulate (f : Nat → Byte) : ∀ (n lo : Nat), lo + n ≤ Config.memorySize →
    Memory.wfFrom lo (Memory.tabulate f lo n) = true
  | 0, _, _ => rfl
  | n + 1, lo, h => by
    have ih := Memory.wfFrom_tabulate f n (lo + 1) (by omega)
    unfold Memory.tabulate
    split
    · exact Memory.wfFrom_mono (Nat.le_succ lo) ih
    · next hv => exact Memory.wfFrom_cons.mpr ⟨le_rfl, by omega, hv, ih⟩

/-- The memory of an image that fits is canonical. -/
theorem Memory.wfFrom_ofImage : ∀ (image : List Byte) (lo : Nat), lo + image.length ≤ Config.memorySize →
    Memory.wfFrom lo (Memory.ofImage lo image) = true
  | [], _, _ => rfl
  | v :: rest, lo, h => by
    have hl : lo + 1 + rest.length ≤ Config.memorySize := by
      simp only [List.length_cons] at h
      omega
    have ih := Memory.wfFrom_ofImage rest (lo + 1) hl
    unfold Memory.ofImage
    split
    · exact Memory.wfFrom_mono (Nat.le_succ lo) ih
    · next hv => exact Memory.wfFrom_cons.mpr ⟨le_rfl, by omega, hv, ih⟩

/-! Reads. -/

/-- A write leaves every other address alone. -/
theorem Memory.read_write_ne : ∀ (m : Memory) (a b : Nat) (v : Byte), b ≠ a →
    (m.write a v).read b = m.read b
  | [], a, b, v, h => by
    unfold Memory.write
    split
    · rfl
    · simp [Memory.read, Ne.symm h]
  | (k, w) :: rest, a, b, v, h => by
    have ih := Memory.read_write_ne rest a b v h
    unfold Memory.write
    split
    · split
      · rfl
      · simp [Memory.read, Ne.symm h]
    · split
      · next h2 =>
        have hk : k ≠ b := by omega
        split
        · simp [Memory.read, hk]
        · simp [Memory.read, hk, Ne.symm h]
      · simp only [Memory.read, ih]

/-- A read of the written address, in a canonical memory, gives the byte written. -/
theorem Memory.read_write_same_from : ∀ {m : Memory} {lo : Nat} (a : Nat) (v : Byte), Memory.wfFrom lo m = true →
    (m.write a v).read a = v
  | [], _, a, v, _ => by
    unfold Memory.write
    split
    · next hv => simp [Memory.read, hv]
    · simp [Memory.read]
  | (k, w) :: rest, lo, a, v, hm => by
    have hc := Memory.wfFrom_cons.mp hm
    unfold Memory.write
    split
    · next h1 =>
      split
      · next hv =>
        have hka : k ≠ a := by omega
        simp only [Memory.read, if_neg hka, hv]
        exact Memory.read_below hc.2.2.2 (by omega)
      · simp [Memory.read]
    · split
      · next h2 =>
        split
        · next hv =>
          rw [hv]
          exact Memory.read_below hc.2.2.2 (by omega)
        · simp [Memory.read]
      · next h1 h2 =>
        have hka : k ≠ a := fun e => h2 e.symm
        simp only [Memory.read, if_neg hka]
        exact Memory.read_write_same_from a v hc.2.2.2

theorem State.memRead_memWrite_ne (s : State) {a x : Word} (v : Byte) (h : x ≠ a) :
    (s.memWrite a v).memRead x = s.memRead x :=
  Memory.read_write_ne _ _ _ _ fun e => h (BitVec.eq_of_toNat_eq e)

theorem State.memRead_memWrite_same {s : State} (hw : s.mem.wf = true) (a : Word) (v : Byte) :
    (s.memWrite a v).memRead a = v :=
  Memory.read_write_same_from _ _ hw

/-- What tabulated memory reads. -/
theorem Memory.read_tabulate (f : Nat → Byte) : ∀ (n lo a : Nat), lo ≤ a → a < lo + n →
    (Memory.tabulate f lo n).read a = f a
  | 0, _, _, h1, h2 => by omega
  | n + 1, lo, a, h1, h2 => by
    have ih := Memory.read_tabulate f n (lo + 1)
    unfold Memory.tabulate
    by_cases he : lo = a
    · subst he
      split
      · next hv =>
        rw [hv]
        clear ih
        have hb : ∀ (n l : Nat), lo < l → (Memory.tabulate f l n).read lo = Config.memInitByte := by
          intro n
          induction n with
          | zero => intros; rfl
          | succ n ihn =>
            intro l hl
            unfold Memory.tabulate
            split
            · exact ihn _ (by omega)
            · simp only [Memory.read, if_neg (show ¬ l = lo by omega)]
              exact ihn _ (by omega)
        exact hb n (lo + 1) (by omega)
      · simp [Memory.read]
    · split
      · exact ih a (by omega) (by omega)
      · simp only [Memory.read, if_neg he]
        exact ih a (by omega) (by omega)

end Sys2Proof.Machine
end

