-- ==== Sys2Proof/Laws/Ops.lean ====
section
/-! SUPPORT. What each shared operation can do, said once: the end of an instruction, the run of a rule, the stack, and
the flags of a result. -/

namespace Sys2Proof.Machine

/-! The end of an instruction. -/

/-- `finish` writes PC and STOP only. -/
theorem finish_frame (pc : Word) (len : Nat) (r : NextPc) (s : State) :
    finish pc len r s = { s with pc := (finish pc len r s).pc, stop := (finish pc len r s).stop } := by
  unfold finish
  split
  · rfl
  · rfl
  · split <;> rfl

theorem finish_mem (pc : Word) (len : Nat) (r : NextPc) (s : State) : (finish pc len r s).mem = s.mem := by
  rw [finish_frame]

/-- Everything `perform` can answer: the stop before execution, or the rule's effects with the PC update. -/
theorem perform_cases {len : Nat} {body : State → State × NextPc} {s t : State} (h : perform len body s = .next t) :
    (0x10000 < s.pc.toNat + len ∧ t = stopAtEnd s) ∨
    (s.pc.toNat + len ≤ 0x10000 ∧ t = finish s.pc len (body s).2 (body s).1) := by
  unfold perform at h
  split at h
  · next hc => exact .inl ⟨hc, (Host.Outcome.next.inj h).symm⟩
  · next hc => exact .inr ⟨not_lt.mp hc, (Host.Outcome.next.inj h).symm⟩

/-- An instruction that fits runs its rule. -/
theorem perform_of_fits {len : Nat} {s : State} (h : s.Fits len) (body : State → State × NextPc) :
    perform len body s = .next (finish s.pc len (body s).2 (body s).1) :=
  if_neg (not_lt.mpr h)

theorem performSeq_of_fits {len : Nat} {s : State} (h : s.Fits len) (f : State → State) :
    performSeq len f s = .next (finish s.pc len .seq (f s)) :=
  perform_of_fits h _

/-- An instruction that extends past 0xFFFF stops with no other effect. -/
theorem perform_of_not_fits {len : Nat} {s : State} (h : 0x10000 < s.pc.toNat + len)
    (body : State → State × NextPc) : perform len body s = .next (stopAtEnd s) :=
  if_pos h

/-- What `finish` does after `Seq`: PC and STOP advance by the length. -/
theorem finish_seq_advances {len : Nat} {s u : State} (hp : u.pc = s.pc) (hs : u.stop = s.stop) :
    AdvancesBy len s (finish s.pc len .seq u) := by
  by_cases hl : s.pc.toNat + len < 0x10000
  · refine ⟨fun _ => ?_, fun e => absurd e (by omega)⟩
    simp only [finish, Config.memorySize, hl, if_true, hs, and_true, BitVec.toNat_add, BitVec.toNat_ofNat]
    omega
  · exact ⟨fun e => absurd e hl, fun _ => by simp [finish, Config.memorySize, hl, hp]⟩

/-- A one-byte instruction always fits. -/
theorem State.fits_one (s : State) : s.Fits 1 := by
  have := s.pc.isLt
  unfold State.Fits
  omega

/-- `perform` always answers a next state. -/
theorem perform_next (len : Nat) (body : State → State × NextPc) (s : State) : ∃ t, perform len body s = .next t := by
  unfold perform
  split
  · exact ⟨_, rfl⟩
  · exact ⟨_, rfl⟩

/-! The stack. -/

/-- What `push16` leaves in memory. -/
theorem push16_memRead {s : State} (hw : s.mem.wf = true) (v x : Word) :
    (push16 v s).memRead x =
      if x = s.sp - 2 then lowByte v else if x = s.sp - 1 then highByte v else s.memRead x := by
  have hw1 := State.memWrite_wf hw (s.sp - 1) (highByte v)
  show ((s.memWrite (s.sp - 1) (highByte v)).memWrite (s.sp - 2) (lowByte v)).memRead x = _
  by_cases h2 : x = s.sp - 2
  · rw [if_pos h2, h2, State.memRead_memWrite_same hw1]
  · rw [if_neg h2, State.memRead_memWrite_ne _ _ h2]
    by_cases h1 : x = s.sp - 1
    · rw [if_pos h1, h1, State.memRead_memWrite_same hw]
    · rw [if_neg h1, State.memRead_memWrite_ne _ _ h1]

/-- The bytes that `push16` stores. -/
theorem push16_storesWord {s : State} (hw : s.mem.wf = true) (v : Word) :
    StoresWord s (push16 v s) (s.sp - 2) v := by
  intro x
  have h1 : s.sp - 2 + 1 = s.sp - 1 := by bv_omega
  have h2 : lowByte v = v.setWidth 8 := BitVec.eq_of_getLsbD_eq fun k hk => by simp [lowByte, hk]
  have h3 : highByte v = (v >>> 8).setWidth 8 := BitVec.eq_of_getLsbD_eq fun k hk => by simp [highByte, hk]
  rw [push16_memRead hw, h1, h2, h3]

theorem memWrite_storesByte {s : State} (hw : s.mem.wf = true) (a : Word) (v : Byte) :
    StoresByte s (s.memWrite a v) a v := by
  intro x
  split
  · next e => exact e ▸ State.memRead_memWrite_same hw a v
  · next e => exact State.memRead_memWrite_ne s v e

/-- The flags byte holds the flags. -/
@[simp] theorem unpackFlags_packFlags (f : Flags) : unpackFlags (packFlags f) = f := by
  rcases f with ⟨_ | _, _ | _, _ | _, _ | _, _ | _⟩ <;> rfl

@[simp] theorem State.setStackPair_stackPair (s : State) (p : StackPair) : s.setStackPair p (s.stackPair p) = s := by
  cases p <;> simp [State.setStackPair, State.stackPair]

/-! The flags of a result. -/

@[simp] theorem zsp_ac (r : Byte) (f : Flags) : (zsp r f).ac = f.ac := rfl
@[simp] theorem zsp_cy (r : Byte) (f : Flags) : (zsp r f).cy = f.cy := rfl

/-- `evenParity` is the parity of the number of 1 bits. -/
theorem evenParity_iff (r : Byte) :
    evenParity r = true ↔ Even ((List.range 8).countP fun k => r.getLsbD k) := by
  simp only [evenParity, popcount, List.countP_eq_length_filter, beq_iff_eq, Nat.even_iff]

/-- `zsp` gives the flags of the result (R40, R41). -/
theorem zsp_zspOf (r : Byte) (f : Flags) : (zsp r f).ZspOf r := by
  refine ⟨by simp [zsp], ?_, evenParity_iff r⟩
  simp only [zsp, BitVec.msb_eq_decide, decide_eq_true_eq]

/-- Everything an addition gives: the result, and the five flags (R201 to R203). -/
theorem add_result_flags (a b : Byte) (cy : Bool) (f : Flags) :
    (addResult a b cy).toNat = (a.toNat + b.toNat + cy.toNat) % 256 ∧ (addFlags a b cy f).ZspOf (addResult a b cy) ∧
    ((addFlags a b cy f).cy = true ↔ 255 < a.toNat + b.toNat + cy.toNat) ∧
    ((addFlags a b cy f).ac = true ↔ 15 < a.toNat % 16 + b.toNat % 16) :=
  ⟨BitVec.toNat_ofNat .., zsp_zspOf _ _, decide_eq_true_iff, decide_eq_true_iff⟩

/-- Everything a subtraction gives: the result, and the five flags (R201 to R203). -/
theorem sub_result_flags (a b : Byte) (cy : Bool) (f : Flags) :
    ((subResult a b cy).toNat : Int) = ((a.toNat : Int) - b.toNat - cy.toNat) % 256 ∧
    (subFlags a b cy f).ZspOf (subResult a b cy) ∧
    ((subFlags a b cy f).cy = true ↔ a.toNat < b.toNat + cy.toNat) ∧
    ((subFlags a b cy f).ac = true ↔ a.toNat % 16 < b.toNat % 16) := by
  refine ⟨?_, zsp_zspOf _ _, decide_eq_true_iff, decide_eq_true_iff⟩
  simp only [subResult, subExact, BitVec.toNat_ofInt]
  omega

end Sys2Proof.Machine
end

