-- ==== Sys2Proof/Laws/PerInstr.lean ====
section
/-! SUPPORT. Statements about every instruction as syntax, one lemma per constructor of `Instr`. -/

/-- The encoding of an instruction has as many bytes as its addressing mode gives it (R90, R106). -/
def Sys2Proof.Laws.EncodedLength.Statement (i : Sys2Proof.Instr) : Prop :=
  (Sys2Proof.encode i).length = i.length

namespace Sys2Proof.Laws.EncodedLength

theorem nop : Statement .nop := rfl
theorem lxiB (v : Word) : Statement (.lxiB v) := rfl
theorem staxB : Statement .staxB := rfl
theorem inxB : Statement .inxB := rfl
theorem inrB : Statement .inrB := rfl
theorem dcrB : Statement .dcrB := rfl
theorem mviB (v : Byte) : Statement (.mviB v) := rfl
theorem rlc : Statement .rlc := rfl
theorem dadB : Statement .dadB := rfl
theorem ldaxB : Statement .ldaxB := rfl
theorem dcxB : Statement .dcxB := rfl
theorem inrC : Statement .inrC := rfl
theorem dcrC : Statement .dcrC := rfl
theorem mviC (v : Byte) : Statement (.mviC v) := rfl
theorem rrc : Statement .rrc := rfl
theorem lxiD (v : Word) : Statement (.lxiD v) := rfl
theorem staxD : Statement .staxD := rfl
theorem inxD : Statement .inxD := rfl
theorem inrD : Statement .inrD := rfl
theorem dcrD : Statement .dcrD := rfl
theorem mviD (v : Byte) : Statement (.mviD v) := rfl
theorem ral : Statement .ral := rfl
theorem dadD : Statement .dadD := rfl
theorem ldaxD : Statement .ldaxD := rfl
theorem dcxD : Statement .dcxD := rfl
theorem inrE : Statement .inrE := rfl
theorem dcrE : Statement .dcrE := rfl
theorem mviE (v : Byte) : Statement (.mviE v) := rfl
theorem rar : Statement .rar := rfl
theorem lxiH (v : Word) : Statement (.lxiH v) := rfl
theorem shld (v : Word) : Statement (.shld v) := rfl
theorem inxH : Statement .inxH := rfl
theorem inrH : Statement .inrH := rfl
theorem dcrH : Statement .dcrH := rfl
theorem mviH (v : Byte) : Statement (.mviH v) := rfl
theorem daa : Statement .daa := rfl
theorem dadH : Statement .dadH := rfl
theorem lhld (v : Word) : Statement (.lhld v) := rfl
theorem dcxH : Statement .dcxH := rfl
theorem inrL : Statement .inrL := rfl
theorem dcrL : Statement .dcrL := rfl
theorem mviL (v : Byte) : Statement (.mviL v) := rfl
theorem cma : Statement .cma := rfl
theorem lxiSP (v : Word) : Statement (.lxiSP v) := rfl
theorem sta (v : Word) : Statement (.sta v) := rfl
theorem inxSP : Statement .inxSP := rfl
theorem inrM : Statement .inrM := rfl
theorem dcrM : Statement .dcrM := rfl
theorem mviM (v : Byte) : Statement (.mviM v) := rfl
theorem stc : Statement .stc := rfl
theorem dadSP : Statement .dadSP := rfl
theorem lda (v : Word) : Statement (.lda v) := rfl
theorem dcxSP : Statement .dcxSP := rfl
theorem inrA : Statement .inrA := rfl
theorem dcrA : Statement .dcrA := rfl
theorem mviA (v : Byte) : Statement (.mviA v) := rfl
theorem cmc : Statement .cmc := rfl
theorem movBB : Statement .movBB := rfl
theorem movBC : Statement .movBC := rfl
theorem movBD : Statement .movBD := rfl
theorem movBE : Statement .movBE := rfl
theorem movBH : Statement .movBH := rfl
theorem movBL : Statement .movBL := rfl
theorem movBM : Statement .movBM := rfl
theorem movBA : Statement .movBA := rfl
theorem movCB : Statement .movCB := rfl
theorem movCC : Statement .movCC := rfl
theorem movCD : Statement .movCD := rfl
theorem movCE : Statement .movCE := rfl
theorem movCH : Statement .movCH := rfl
theorem movCL : Statement .movCL := rfl
theorem movCM : Statement .movCM := rfl
theorem movCA : Statement .movCA := rfl
theorem movDB : Statement .movDB := rfl
theorem movDC : Statement .movDC := rfl
theorem movDD : Statement .movDD := rfl
theorem movDE : Statement .movDE := rfl
theorem movDH : Statement .movDH := rfl
theorem movDL : Statement .movDL := rfl
theorem movDM : Statement .movDM := rfl
theorem movDA : Statement .movDA := rfl
theorem movEB : Statement .movEB := rfl
theorem movEC : Statement .movEC := rfl
theorem movED : Statement .movED := rfl
theorem movEE : Statement .movEE := rfl
theorem movEH : Statement .movEH := rfl
theorem movEL : Statement .movEL := rfl
theorem movEM : Statement .movEM := rfl
theorem movEA : Statement .movEA := rfl
theorem movHB : Statement .movHB := rfl
theorem movHC : Statement .movHC := rfl
theorem movHD : Statement .movHD := rfl
theorem movHE : Statement .movHE := rfl
theorem movHH : Statement .movHH := rfl
theorem movHL : Statement .movHL := rfl
theorem movHM : Statement .movHM := rfl
theorem movHA : Statement .movHA := rfl
theorem movLB : Statement .movLB := rfl
theorem movLC : Statement .movLC := rfl
theorem movLD : Statement .movLD := rfl
theorem movLE : Statement .movLE := rfl
theorem movLH : Statement .movLH := rfl
theorem movLL : Statement .movLL := rfl
theorem movLM : Statement .movLM := rfl
theorem movLA : Statement .movLA := rfl
theorem movMB : Statement .movMB := rfl
theorem movMC : Statement .movMC := rfl
theorem movMD : Statement .movMD := rfl
theorem movME : Statement .movME := rfl
theorem movMH : Statement .movMH := rfl
theorem movML : Statement .movML := rfl
theorem hlt : Statement .hlt := rfl
theorem movMA : Statement .movMA := rfl
theorem movAB : Statement .movAB := rfl
theorem movAC : Statement .movAC := rfl
theorem movAD : Statement .movAD := rfl
theorem movAE : Statement .movAE := rfl
theorem movAH : Statement .movAH := rfl
theorem movAL : Statement .movAL := rfl
theorem movAM : Statement .movAM := rfl
theorem movAA : Statement .movAA := rfl
theorem addB : Statement .addB := rfl
theorem addC : Statement .addC := rfl
theorem addD : Statement .addD := rfl
theorem addE : Statement .addE := rfl
theorem addH : Statement .addH := rfl
theorem addL : Statement .addL := rfl
theorem addM : Statement .addM := rfl
theorem addA : Statement .addA := rfl
theorem adcB : Statement .adcB := rfl
theorem adcC : Statement .adcC := rfl
theorem adcD : Statement .adcD := rfl
theorem adcE : Statement .adcE := rfl
theorem adcH : Statement .adcH := rfl
theorem adcL : Statement .adcL := rfl
theorem adcM : Statement .adcM := rfl
theorem adcA : Statement .adcA := rfl
theorem subB : Statement .subB := rfl
theorem subC : Statement .subC := rfl
theorem subD : Statement .subD := rfl
theorem subE : Statement .subE := rfl
theorem subH : Statement .subH := rfl
theorem subL : Statement .subL := rfl
theorem subM : Statement .subM := rfl
theorem subA : Statement .subA := rfl
theorem sbbB : Statement .sbbB := rfl
theorem sbbC : Statement .sbbC := rfl
theorem sbbD : Statement .sbbD := rfl
theorem sbbE : Statement .sbbE := rfl
theorem sbbH : Statement .sbbH := rfl
theorem sbbL : Statement .sbbL := rfl
theorem sbbM : Statement .sbbM := rfl
theorem sbbA : Statement .sbbA := rfl
theorem anaB : Statement .anaB := rfl
theorem anaC : Statement .anaC := rfl
theorem anaD : Statement .anaD := rfl
theorem anaE : Statement .anaE := rfl
theorem anaH : Statement .anaH := rfl
theorem anaL : Statement .anaL := rfl
theorem anaM : Statement .anaM := rfl
theorem anaA : Statement .anaA := rfl
theorem xraB : Statement .xraB := rfl
theorem xraC : Statement .xraC := rfl
theorem xraD : Statement .xraD := rfl
theorem xraE : Statement .xraE := rfl
theorem xraH : Statement .xraH := rfl
theorem xraL : Statement .xraL := rfl
theorem xraM : Statement .xraM := rfl
theorem xraA : Statement .xraA := rfl
theorem oraB : Statement .oraB := rfl
theorem oraC : Statement .oraC := rfl
theorem oraD : Statement .oraD := rfl
theorem oraE : Statement .oraE := rfl
theorem oraH : Statement .oraH := rfl
theorem oraL : Statement .oraL := rfl
theorem oraM : Statement .oraM := rfl
theorem oraA : Statement .oraA := rfl
theorem cmpB : Statement .cmpB := rfl
theorem cmpC : Statement .cmpC := rfl
theorem cmpD : Statement .cmpD := rfl
theorem cmpE : Statement .cmpE := rfl
theorem cmpH : Statement .cmpH := rfl
theorem cmpL : Statement .cmpL := rfl
theorem cmpM : Statement .cmpM := rfl
theorem cmpA : Statement .cmpA := rfl
theorem rnz : Statement .rnz := rfl
theorem popB : Statement .popB := rfl
theorem jnz (v : Word) : Statement (.jnz v) := rfl
theorem jmp (v : Word) : Statement (.jmp v) := rfl
theorem cnz (v : Word) : Statement (.cnz v) := rfl
theorem pushB : Statement .pushB := rfl
theorem adi (v : Byte) : Statement (.adi v) := rfl
theorem rst0 : Statement .rst0 := rfl
theorem rz : Statement .rz := rfl
theorem ret : Statement .ret := rfl
theorem jz (v : Word) : Statement (.jz v) := rfl
theorem cz (v : Word) : Statement (.cz v) := rfl
theorem call (v : Word) : Statement (.call v) := rfl
theorem aci (v : Byte) : Statement (.aci v) := rfl
theorem rst1 : Statement .rst1 := rfl
theorem rnc : Statement .rnc := rfl
theorem popD : Statement .popD := rfl
theorem jnc (v : Word) : Statement (.jnc v) := rfl
theorem outP8 (v : Byte) : Statement (.outP8 v) := rfl
theorem cnc (v : Word) : Statement (.cnc v) := rfl
theorem pushD : Statement .pushD := rfl
theorem sui (v : Byte) : Statement (.sui v) := rfl
theorem rst2 : Statement .rst2 := rfl
theorem rc : Statement .rc := rfl
theorem jc (v : Word) : Statement (.jc v) := rfl
theorem inP8 (v : Byte) : Statement (.inP8 v) := rfl
theorem cc (v : Word) : Statement (.cc v) := rfl
theorem sbi (v : Byte) : Statement (.sbi v) := rfl
theorem rst3 : Statement .rst3 := rfl
theorem rpo : Statement .rpo := rfl
theorem popH : Statement .popH := rfl
theorem jpo (v : Word) : Statement (.jpo v) := rfl
theorem xthl : Statement .xthl := rfl
theorem cpo (v : Word) : Statement (.cpo v) := rfl
theorem pushH : Statement .pushH := rfl
theorem ani (v : Byte) : Statement (.ani v) := rfl
theorem rst4 : Statement .rst4 := rfl
theorem rpe : Statement .rpe := rfl
theorem pchl : Statement .pchl := rfl
theorem jpe (v : Word) : Statement (.jpe v) := rfl
theorem xchg : Statement .xchg := rfl
theorem cpe (v : Word) : Statement (.cpe v) := rfl
theorem xri (v : Byte) : Statement (.xri v) := rfl
theorem rst5 : Statement .rst5 := rfl
theorem rp : Statement .rp := rfl
theorem popPSW : Statement .popPSW := rfl
theorem jp (v : Word) : Statement (.jp v) := rfl
theorem di : Statement .di := rfl
theorem cp (v : Word) : Statement (.cp v) := rfl
theorem pushPSW : Statement .pushPSW := rfl
theorem ori (v : Byte) : Statement (.ori v) := rfl
theorem rst6 : Statement .rst6 := rfl
theorem rm : Statement .rm := rfl
theorem sphl : Statement .sphl := rfl
theorem jm (v : Word) : Statement (.jm v) := rfl
theorem ei : Statement .ei := rfl
theorem cm (v : Word) : Statement (.cm v) := rfl
theorem cpi (v : Byte) : Statement (.cpi v) := rfl
theorem rst7 : Statement .rst7 := rfl
theorem illegal (op : Byte) : Statement (.illegal op) := rfl

end Sys2Proof.Laws.EncodedLength
end

