-- ==== Sys2Proof/Laws/Shape.lean ====
section
/-! SUPPORT. The instructions by shape: one constructor per shared operation with its operands, so that a proof about
every instruction splits on the shapes and not on the opcodes. `exec_eq_shape` is the one lemma that looks at every
arm of `exec`. -/

namespace Sys2Proof.Machine

/-- The shapes of the instructions. -/
inductive Shape where
  | alu (op : AluOp) (src : Operand)
  | aluImm (op : AluOp) (d : Byte)
  | mov (dst src : Operand)
  | mvi (dst : Operand) (d : Byte)
  | lxi (p : Pair) (v : Word)
  | lda (t : Word)
  | sta (t : Word)
  | lhld (t : Word)
  | shld (t : Word)
  | ldax (p : Pair)
  | stax (p : Pair)
  | xchg
  | inr (o : Operand)
  | dcr (o : Operand)
  | inx (p : Pair)
  | dcx (p : Pair)
  | dad (p : Pair)
  | rlc | rrc | ral | rar | daa | cma | stc | cmc
  | jmp (t : Word)
  | jcc (test : Cond) (t : Word)
  | call (t : Word)
  | ccc (test : Cond) (t : Word)
  | ret
  | rcc (test : Cond)
  | rst (t : Word)
  | pchl
  | push (p : StackPair)
  | pop (p : StackPair)
  | xthl | sphl | nop | hlt | ei | di
  | out (p : Byte)
  | inp (p : Byte)
  | illegal (op : Byte)
  deriving DecidableEq, Repr

/-- The length of a shape. -/
def Shape.length : Shape → Nat
  | .aluImm _ _ | .mvi _ _ | .out _ | .inp _ => 2
  | .lxi _ _ | .lda _ | .sta _ | .lhld _ | .shld _ | .jmp _ | .jcc _ _ | .call _ | .ccc _ _ => 3
  | _ => 1

/-- The rule of a shape: its effects and its next-PC result. (For `illegal`, which has no rule, the state itself.) -/
def Shape.body : Shape → State → State × NextPc
  | .alu op src => fun s => (aluOn op (s.operand src) s, .seq)
  | .aluImm op d => fun s => (aluOn op d s, .seq)
  | .mov dst src => fun s => (s.setOperand dst (s.operand src), .seq)
  | .mvi dst d => fun s => (s.setOperand dst d, .seq)
  | .lxi p v => fun s => (s.setPair p v, .seq)
  | .lda t => fun s => (loadA t s, .seq)
  | .sta t => fun s => (storeA t s, .seq)
  | .lhld t => fun s => (loadHl t s, .seq)
  | .shld t => fun s => (storeHl t s, .seq)
  | .ldax p => fun s => (loadA (s.pair p) s, .seq)
  | .stax p => fun s => (storeA (s.pair p) s, .seq)
  | .xchg => fun s => (exchangeDeHl s, .seq)
  | .inr o => fun s => (incOperand o s, .seq)
  | .dcr o => fun s => (decOperand o s, .seq)
  | .inx p => fun s => (s.setPair p (s.pair p + 1), .seq)
  | .dcx p => fun s => (s.setPair p (s.pair p - 1), .seq)
  | .dad p => fun s => (addToHl p s, .seq)
  | .rlc => fun s => (rotateLeft s, .seq)
  | .rrc => fun s => (rotateRight s, .seq)
  | .ral => fun s => (rotateLeftCarry s, .seq)
  | .rar => fun s => (rotateRightCarry s, .seq)
  | .daa => fun s => (decimalAdjust s, .seq)
  | .cma => fun s => (complementA s, .seq)
  | .stc => fun s => (setCarry s, .seq)
  | .cmc => fun s => (complementCarry s, .seq)
  | .jmp t => jumpTo t
  | .jcc test t => whenCond test (jumpTo t)
  | .call t => callTo 3 t
  | .ccc test t => whenCond test (callTo 3 t)
  | .ret => returnTop
  | .rcc test => whenCond test returnTop
  | .rst t => callTo 1 t
  | .pchl => jumpHl
  | .push p => fun s => (pushPair p s, .seq)
  | .pop p => fun s => (popPair p s, .seq)
  | .xthl => fun s => (exchangeTop s, .seq)
  | .sphl => fun s => (spFromHl s, .seq)
  | .nop => fun s => (s, .seq)
  | .hlt => fun s => (s, .halt)
  | .ei => fun s => (setInte true s, .seq)
  | .di => fun s => (setInte false s, .seq)
  | .out p => fun s => (outputA p s, .seq)
  | .inp p => fun s => (inputA p s, .seq)
  | .illegal _ => fun s => (s, .seq)

/-- The meaning of a shape. -/
def Shape.exec (x : Shape) (s : State) : Answer :=
  match x with
  | .illegal op => performIllegal op s
  | x => perform x.length x.body s

/-- The shape of an instruction. -/
def shapeOf : Instr → Shape
  | .nop => .nop
  | .lxiB v => .lxi .bc v
  | .staxB => .stax .bc
  | .inxB => .inx .bc
  | .inrB => .inr (.reg .b)
  | .dcrB => .dcr (.reg .b)
  | .mviB d => .mvi (.reg .b) d
  | .rlc => .rlc
  | .dadB => .dad .bc
  | .ldaxB => .ldax .bc
  | .dcxB => .dcx .bc
  | .inrC => .inr (.reg .c)
  | .dcrC => .dcr (.reg .c)
  | .mviC d => .mvi (.reg .c) d
  | .rrc => .rrc
  | .lxiD v => .lxi .de v
  | .staxD => .stax .de
  | .inxD => .inx .de
  | .inrD => .inr (.reg .d)
  | .dcrD => .dcr (.reg .d)
  | .mviD d => .mvi (.reg .d) d
  | .ral => .ral
  | .dadD => .dad .de
  | .ldaxD => .ldax .de
  | .dcxD => .dcx .de
  | .inrE => .inr (.reg .e)
  | .dcrE => .dcr (.reg .e)
  | .mviE d => .mvi (.reg .e) d
  | .rar => .rar
  | .lxiH v => .lxi .hl v
  | .shld t => .shld t
  | .inxH => .inx .hl
  | .inrH => .inr (.reg .h)
  | .dcrH => .dcr (.reg .h)
  | .mviH d => .mvi (.reg .h) d
  | .daa => .daa
  | .dadH => .dad .hl
  | .lhld t => .lhld t
  | .dcxH => .dcx .hl
  | .inrL => .inr (.reg .l)
  | .dcrL => .dcr (.reg .l)
  | .mviL d => .mvi (.reg .l) d
  | .cma => .cma
  | .lxiSP v => .lxi .sp v
  | .sta t => .sta t
  | .inxSP => .inx .sp
  | .inrM => .inr .m
  | .dcrM => .dcr .m
  | .mviM d => .mvi .m d
  | .stc => .stc
  | .dadSP => .dad .sp
  | .lda t => .lda t
  | .dcxSP => .dcx .sp
  | .inrA => .inr (.reg .a)
  | .dcrA => .dcr (.reg .a)
  | .mviA d => .mvi (.reg .a) d
  | .cmc => .cmc
  | .movBB => .mov (.reg .b) (.reg .b)
  | .movBC => .mov (.reg .b) (.reg .c)
  | .movBD => .mov (.reg .b) (.reg .d)
  | .movBE => .mov (.reg .b) (.reg .e)
  | .movBH => .mov (.reg .b) (.reg .h)
  | .movBL => .mov (.reg .b) (.reg .l)
  | .movBM => .mov (.reg .b) .m
  | .movBA => .mov (.reg .b) (.reg .a)
  | .movCB => .mov (.reg .c) (.reg .b)
  | .movCC => .mov (.reg .c) (.reg .c)
  | .movCD => .mov (.reg .c) (.reg .d)
  | .movCE => .mov (.reg .c) (.reg .e)
  | .movCH => .mov (.reg .c) (.reg .h)
  | .movCL => .mov (.reg .c) (.reg .l)
  | .movCM => .mov (.reg .c) .m
  | .movCA => .mov (.reg .c) (.reg .a)
  | .movDB => .mov (.reg .d) (.reg .b)
  | .movDC => .mov (.reg .d) (.reg .c)
  | .movDD => .mov (.reg .d) (.reg .d)
  | .movDE => .mov (.reg .d) (.reg .e)
  | .movDH => .mov (.reg .d) (.reg .h)
  | .movDL => .mov (.reg .d) (.reg .l)
  | .movDM => .mov (.reg .d) .m
  | .movDA => .mov (.reg .d) (.reg .a)
  | .movEB => .mov (.reg .e) (.reg .b)
  | .movEC => .mov (.reg .e) (.reg .c)
  | .movED => .mov (.reg .e) (.reg .d)
  | .movEE => .mov (.reg .e) (.reg .e)
  | .movEH => .mov (.reg .e) (.reg .h)
  | .movEL => .mov (.reg .e) (.reg .l)
  | .movEM => .mov (.reg .e) .m
  | .movEA => .mov (.reg .e) (.reg .a)
  | .movHB => .mov (.reg .h) (.reg .b)
  | .movHC => .mov (.reg .h) (.reg .c)
  | .movHD => .mov (.reg .h) (.reg .d)
  | .movHE => .mov (.reg .h) (.reg .e)
  | .movHH => .mov (.reg .h) (.reg .h)
  | .movHL => .mov (.reg .h) (.reg .l)
  | .movHM => .mov (.reg .h) .m
  | .movHA => .mov (.reg .h) (.reg .a)
  | .movLB => .mov (.reg .l) (.reg .b)
  | .movLC => .mov (.reg .l) (.reg .c)
  | .movLD => .mov (.reg .l) (.reg .d)
  | .movLE => .mov (.reg .l) (.reg .e)
  | .movLH => .mov (.reg .l) (.reg .h)
  | .movLL => .mov (.reg .l) (.reg .l)
  | .movLM => .mov (.reg .l) .m
  | .movLA => .mov (.reg .l) (.reg .a)
  | .movMB => .mov .m (.reg .b)
  | .movMC => .mov .m (.reg .c)
  | .movMD => .mov .m (.reg .d)
  | .movME => .mov .m (.reg .e)
  | .movMH => .mov .m (.reg .h)
  | .movML => .mov .m (.reg .l)
  | .hlt => .hlt
  | .movMA => .mov .m (.reg .a)
  | .movAB => .mov (.reg .a) (.reg .b)
  | .movAC => .mov (.reg .a) (.reg .c)
  | .movAD => .mov (.reg .a) (.reg .d)
  | .movAE => .mov (.reg .a) (.reg .e)
  | .movAH => .mov (.reg .a) (.reg .h)
  | .movAL => .mov (.reg .a) (.reg .l)
  | .movAM => .mov (.reg .a) .m
  | .movAA => .mov (.reg .a) (.reg .a)
  | .addB => .alu .add (.reg .b)
  | .addC => .alu .add (.reg .c)
  | .addD => .alu .add (.reg .d)
  | .addE => .alu .add (.reg .e)
  | .addH => .alu .add (.reg .h)
  | .addL => .alu .add (.reg .l)
  | .addM => .alu .add .m
  | .addA => .alu .add (.reg .a)
  | .adcB => .alu .adc (.reg .b)
  | .adcC => .alu .adc (.reg .c)
  | .adcD => .alu .adc (.reg .d)
  | .adcE => .alu .adc (.reg .e)
  | .adcH => .alu .adc (.reg .h)
  | .adcL => .alu .adc (.reg .l)
  | .adcM => .alu .adc .m
  | .adcA => .alu .adc (.reg .a)
  | .subB => .alu .sub (.reg .b)
  | .subC => .alu .sub (.reg .c)
  | .subD => .alu .sub (.reg .d)
  | .subE => .alu .sub (.reg .e)
  | .subH => .alu .sub (.reg .h)
  | .subL => .alu .sub (.reg .l)
  | .subM => .alu .sub .m
  | .subA => .alu .sub (.reg .a)
  | .sbbB => .alu .sbb (.reg .b)
  | .sbbC => .alu .sbb (.reg .c)
  | .sbbD => .alu .sbb (.reg .d)
  | .sbbE => .alu .sbb (.reg .e)
  | .sbbH => .alu .sbb (.reg .h)
  | .sbbL => .alu .sbb (.reg .l)
  | .sbbM => .alu .sbb .m
  | .sbbA => .alu .sbb (.reg .a)
  | .anaB => .alu .ana (.reg .b)
  | .anaC => .alu .ana (.reg .c)
  | .anaD => .alu .ana (.reg .d)
  | .anaE => .alu .ana (.reg .e)
  | .anaH => .alu .ana (.reg .h)
  | .anaL => .alu .ana (.reg .l)
  | .anaM => .alu .ana .m
  | .anaA => .alu .ana (.reg .a)
  | .xraB => .alu .xra (.reg .b)
  | .xraC => .alu .xra (.reg .c)
  | .xraD => .alu .xra (.reg .d)
  | .xraE => .alu .xra (.reg .e)
  | .xraH => .alu .xra (.reg .h)
  | .xraL => .alu .xra (.reg .l)
  | .xraM => .alu .xra .m
  | .xraA => .alu .xra (.reg .a)
  | .oraB => .alu .ora (.reg .b)
  | .oraC => .alu .ora (.reg .c)
  | .oraD => .alu .ora (.reg .d)
  | .oraE => .alu .ora (.reg .e)
  | .oraH => .alu .ora (.reg .h)
  | .oraL => .alu .ora (.reg .l)
  | .oraM => .alu .ora .m
  | .oraA => .alu .ora (.reg .a)
  | .cmpB => .alu .cmp (.reg .b)
  | .cmpC => .alu .cmp (.reg .c)
  | .cmpD => .alu .cmp (.reg .d)
  | .cmpE => .alu .cmp (.reg .e)
  | .cmpH => .alu .cmp (.reg .h)
  | .cmpL => .alu .cmp (.reg .l)
  | .cmpM => .alu .cmp .m
  | .cmpA => .alu .cmp (.reg .a)
  | .rnz => .rcc .nz
  | .popB => .pop .bc
  | .jnz t => .jcc .nz t
  | .jmp t => .jmp t
  | .cnz t => .ccc .nz t
  | .pushB => .push .bc
  | .adi d => .aluImm .add d
  | .rst0 => .rst 0x0000
  | .rz => .rcc .z
  | .ret => .ret
  | .jz t => .jcc .z t
  | .cz t => .ccc .z t
  | .call t => .call t
  | .aci d => .aluImm .adc d
  | .rst1 => .rst 0x0008
  | .rnc => .rcc .nc
  | .popD => .pop .de
  | .jnc t => .jcc .nc t
  | .outP8 p => .out p
  | .cnc t => .ccc .nc t
  | .pushD => .push .de
  | .sui d => .aluImm .sub d
  | .rst2 => .rst 0x0010
  | .rc => .rcc .c
  | .jc t => .jcc .c t
  | .inP8 p => .inp p
  | .cc t => .ccc .c t
  | .sbi d => .aluImm .sbb d
  | .rst3 => .rst 0x0018
  | .rpo => .rcc .po
  | .popH => .pop .hl
  | .jpo t => .jcc .po t
  | .xthl => .xthl
  | .cpo t => .ccc .po t
  | .pushH => .push .hl
  | .ani d => .aluImm .ana d
  | .rst4 => .rst 0x0020
  | .rpe => .rcc .pe
  | .pchl => .pchl
  | .jpe t => .jcc .pe t
  | .xchg => .xchg
  | .cpe t => .ccc .pe t
  | .xri d => .aluImm .xra d
  | .rst5 => .rst 0x0028
  | .rp => .rcc .p
  | .popPSW => .pop .psw
  | .jp t => .jcc .p t
  | .di => .di
  | .cp t => .ccc .p t
  | .pushPSW => .push .psw
  | .ori d => .aluImm .ora d
  | .rst6 => .rst 0x0030
  | .rm => .rcc .m
  | .sphl => .sphl
  | .jm t => .jcc .m t
  | .ei => .ei
  | .cm t => .ccc .m t
  | .cpi d => .aluImm .cmp d
  | .rst7 => .rst 0x0038
  | .illegal op => .illegal op

/-- Every arm of `exec` runs its instruction's shape. -/
theorem exec_eq_shape (i : Instr) (s : State) : exec i s = (shapeOf i).exec s := by
  cases i <;> rfl

/-- A shape has the length of its instruction. -/
theorem length_shapeOf (i : Instr) : (shapeOf i).length = i.length := by
  cases i <;> rfl

/-- Every instruction but ILLEGAL runs by `perform` with its own length. -/
theorem exec_eq_perform {i : Instr} (h : ∀ op, i ≠ .illegal op) (s : State) :
    exec i s = perform i.length (shapeOf i).body s := by
  rw [exec_eq_shape, ← length_shapeOf]
  cases i <;> first | rfl | exact absurd rfl (h _)

/-- An instruction of a shape with a rule, where it fits, answers the rule's effects with some PC and STOP. -/
theorem exec_of_shape {i : Instr} {s u : State} {x : Shape} (hx : shapeOf i = x) (hn : ∀ op, x ≠ .illegal op)
    (hf : s.Fits x.length) (hu : (x.body s).1 = u) : ∃ p q, exec i s = .next { u with pc := p, stop := q } := by
  subst hu hx
  rw [exec_eq_perform (fun op h => hn op (by rw [h]; rfl)), perform_of_fits (by rwa [length_shapeOf] at hf)]
  exact ⟨_, _, congrArg _ (finish_frame ..)⟩

/-- The same for a shape whose rule transfers to `t`: PC is `t` and STOP is kept. -/
theorem exec_of_target {i : Instr} {s u : State} {x : Shape} {t : Word} (hx : shapeOf i = x)
    (hn : ∀ op, x ≠ .illegal op) (hf : s.Fits x.length) (hu : x.body s = (u, .target t)) :
    exec i s = .next { u with pc := t } := by
  subst hx
  rw [exec_eq_perform (fun op h => hn op (by rw [h]; rfl)), perform_of_fits (by rwa [length_shapeOf] at hf), hu]
  rfl

/-- Everything `exec` can answer when it answers a next state. -/
theorem exec_cases {i : Instr} {s t : State} (h : exec i s = .next t) :
    (∃ op, i = .illegal op ∧ op ∈ illegalBytes ∧ t = raiseDecodeFault op s) ∨
    ((∀ op, i ≠ .illegal op) ∧ 0x10000 < s.pc.toNat + i.length ∧ t = stopAtEnd s) ∨
    ((∀ op, i ≠ .illegal op) ∧ s.pc.toNat + i.length ≤ 0x10000 ∧
      t = finish s.pc i.length ((shapeOf i).body s).2 ((shapeOf i).body s).1) := by
  by_cases hi : ∀ op, i ≠ .illegal op
  · rw [exec_eq_perform hi] at h
    rcases perform_cases h with hc | hc
    · exact .inr (.inl ⟨hi, hc⟩)
    · exact .inr (.inr ⟨hi, hc⟩)
  · push Not at hi
    obtain ⟨op, rfl⟩ := hi
    simp only [exec, execIllegal, performIllegal] at h
    split at h
    · next hc => exact .inl ⟨op, rfl, by simpa using hc, (Host.Outcome.next.inj h).symm⟩
    · cases h

/-- A rule holds PC and STOP (R135, R139). -/
theorem Shape.body_pc_stop (x : Shape) (s : State) : (x.body s).1.pc = s.pc ∧ (x.body s).1.stop = s.stop := by
  cases x
  case alu op _ => cases op <;> exact ⟨rfl, rfl⟩
  case aluImm op _ => cases op <;> exact ⟨rfl, rfl⟩
  case jcc => simp only [Shape.body, whenCond]; split <;> exact ⟨rfl, rfl⟩
  case ccc => simp only [Shape.body, whenCond]; split <;> exact ⟨rfl, rfl⟩
  case rcc => simp only [Shape.body, whenCond]; split <;> exact ⟨rfl, rfl⟩
  case pop p => cases p <;> exact ⟨rfl, rfl⟩
  case lxi p _ => cases p <;> exact ⟨rfl, rfl⟩
  case inx p => cases p <;> exact ⟨rfl, rfl⟩
  case dcx p => cases p <;> exact ⟨rfl, rfl⟩
  case mov d _ => exact ⟨State.setOperand_pc .., State.setOperand_stop ..⟩
  case mvi d _ => exact ⟨State.setOperand_pc .., State.setOperand_stop ..⟩
  case inr d => exact ⟨State.setOperand_pc .., State.setOperand_stop ..⟩
  case dcr d => exact ⟨State.setOperand_pc .., State.setOperand_stop ..⟩
  all_goals exact ⟨rfl, rfl⟩

/-- The `Seq` of a shape on these flags: `Instr.yieldsSeq` seen through `shapeOf`. -/
def Shape.yieldsSeq (x : Shape) (f : Flags) : Bool :=
  match x with
  | .jcc test _ | .ccc test _ | .rcc test => !condHolds f test
  | .jmp _ | .call _ | .ret | .rst _ | .pchl | .hlt | .illegal _ => false
  | _ => true

theorem yieldsSeq_shapeOf (i : Instr) (f : Flags) : (shapeOf i).yieldsSeq f = i.yieldsSeq f := by
  cases i <;> first | rfl | exact Bool.not_not _

end Sys2Proof.Machine
end

