-- ==== Sys2Proof/Machine/Disassembly.lean ====
section
/-! DEFINITION. The assembler form of an instruction (`30_encoding.md` R108): "kept for diagnostic/disassembly purposes
only". No rule of the machine reads it. -/

namespace Sys2Proof

/-- The Intel syntax of R108: mnemonic, destination, source. Numbers are written in decimal (log entry 7). An illegal
byte has no assembler form; its text names the byte. -/
def Instr.asm : Instr → String
  | .nop => "NOP"
  | .lxiB v => "LXI B," ++ toString v.toNat
  | .staxB => "STAX B"
  | .inxB => "INX B"
  | .inrB => "INR B"
  | .dcrB => "DCR B"
  | .mviB v => "MVI B," ++ toString v.toNat
  | .rlc => "RLC"
  | .dadB => "DAD B"
  | .ldaxB => "LDAX B"
  | .dcxB => "DCX B"
  | .inrC => "INR C"
  | .dcrC => "DCR C"
  | .mviC v => "MVI C," ++ toString v.toNat
  | .rrc => "RRC"
  | .lxiD v => "LXI D," ++ toString v.toNat
  | .staxD => "STAX D"
  | .inxD => "INX D"
  | .inrD => "INR D"
  | .dcrD => "DCR D"
  | .mviD v => "MVI D," ++ toString v.toNat
  | .ral => "RAL"
  | .dadD => "DAD D"
  | .ldaxD => "LDAX D"
  | .dcxD => "DCX D"
  | .inrE => "INR E"
  | .dcrE => "DCR E"
  | .mviE v => "MVI E," ++ toString v.toNat
  | .rar => "RAR"
  | .lxiH v => "LXI H," ++ toString v.toNat
  | .shld v => "SHLD " ++ toString v.toNat
  | .inxH => "INX H"
  | .inrH => "INR H"
  | .dcrH => "DCR H"
  | .mviH v => "MVI H," ++ toString v.toNat
  | .daa => "DAA"
  | .dadH => "DAD H"
  | .lhld v => "LHLD " ++ toString v.toNat
  | .dcxH => "DCX H"
  | .inrL => "INR L"
  | .dcrL => "DCR L"
  | .mviL v => "MVI L," ++ toString v.toNat
  | .cma => "CMA"
  | .lxiSP v => "LXI SP," ++ toString v.toNat
  | .sta v => "STA " ++ toString v.toNat
  | .inxSP => "INX SP"
  | .inrM => "INR M"
  | .dcrM => "DCR M"
  | .mviM v => "MVI M," ++ toString v.toNat
  | .stc => "STC"
  | .dadSP => "DAD SP"
  | .lda v => "LDA " ++ toString v.toNat
  | .dcxSP => "DCX SP"
  | .inrA => "INR A"
  | .dcrA => "DCR A"
  | .mviA v => "MVI A," ++ toString v.toNat
  | .cmc => "CMC"
  | .movBB => "MOV B,B"
  | .movBC => "MOV B,C"
  | .movBD => "MOV B,D"
  | .movBE => "MOV B,E"
  | .movBH => "MOV B,H"
  | .movBL => "MOV B,L"
  | .movBM => "MOV B,M"
  | .movBA => "MOV B,A"
  | .movCB => "MOV C,B"
  | .movCC => "MOV C,C"
  | .movCD => "MOV C,D"
  | .movCE => "MOV C,E"
  | .movCH => "MOV C,H"
  | .movCL => "MOV C,L"
  | .movCM => "MOV C,M"
  | .movCA => "MOV C,A"
  | .movDB => "MOV D,B"
  | .movDC => "MOV D,C"
  | .movDD => "MOV D,D"
  | .movDE => "MOV D,E"
  | .movDH => "MOV D,H"
  | .movDL => "MOV D,L"
  | .movDM => "MOV D,M"
  | .movDA => "MOV D,A"
  | .movEB => "MOV E,B"
  | .movEC => "MOV E,C"
  | .movED => "MOV E,D"
  | .movEE => "MOV E,E"
  | .movEH => "MOV E,H"
  | .movEL => "MOV E,L"
  | .movEM => "MOV E,M"
  | .movEA => "MOV E,A"
  | .movHB => "MOV H,B"
  | .movHC => "MOV H,C"
  | .movHD => "MOV H,D"
  | .movHE => "MOV H,E"
  | .movHH => "MOV H,H"
  | .movHL => "MOV H,L"
  | .movHM => "MOV H,M"
  | .movHA => "MOV H,A"
  | .movLB => "MOV L,B"
  | .movLC => "MOV L,C"
  | .movLD => "MOV L,D"
  | .movLE => "MOV L,E"
  | .movLH => "MOV L,H"
  | .movLL => "MOV L,L"
  | .movLM => "MOV L,M"
  | .movLA => "MOV L,A"
  | .movMB => "MOV M,B"
  | .movMC => "MOV M,C"
  | .movMD => "MOV M,D"
  | .movME => "MOV M,E"
  | .movMH => "MOV M,H"
  | .movML => "MOV M,L"
  | .hlt => "HLT"
  | .movMA => "MOV M,A"
  | .movAB => "MOV A,B"
  | .movAC => "MOV A,C"
  | .movAD => "MOV A,D"
  | .movAE => "MOV A,E"
  | .movAH => "MOV A,H"
  | .movAL => "MOV A,L"
  | .movAM => "MOV A,M"
  | .movAA => "MOV A,A"
  | .addB => "ADD B"
  | .addC => "ADD C"
  | .addD => "ADD D"
  | .addE => "ADD E"
  | .addH => "ADD H"
  | .addL => "ADD L"
  | .addM => "ADD M"
  | .addA => "ADD A"
  | .adcB => "ADC B"
  | .adcC => "ADC C"
  | .adcD => "ADC D"
  | .adcE => "ADC E"
  | .adcH => "ADC H"
  | .adcL => "ADC L"
  | .adcM => "ADC M"
  | .adcA => "ADC A"
  | .subB => "SUB B"
  | .subC => "SUB C"
  | .subD => "SUB D"
  | .subE => "SUB E"
  | .subH => "SUB H"
  | .subL => "SUB L"
  | .subM => "SUB M"
  | .subA => "SUB A"
  | .sbbB => "SBB B"
  | .sbbC => "SBB C"
  | .sbbD => "SBB D"
  | .sbbE => "SBB E"
  | .sbbH => "SBB H"
  | .sbbL => "SBB L"
  | .sbbM => "SBB M"
  | .sbbA => "SBB A"
  | .anaB => "ANA B"
  | .anaC => "ANA C"
  | .anaD => "ANA D"
  | .anaE => "ANA E"
  | .anaH => "ANA H"
  | .anaL => "ANA L"
  | .anaM => "ANA M"
  | .anaA => "ANA A"
  | .xraB => "XRA B"
  | .xraC => "XRA C"
  | .xraD => "XRA D"
  | .xraE => "XRA E"
  | .xraH => "XRA H"
  | .xraL => "XRA L"
  | .xraM => "XRA M"
  | .xraA => "XRA A"
  | .oraB => "ORA B"
  | .oraC => "ORA C"
  | .oraD => "ORA D"
  | .oraE => "ORA E"
  | .oraH => "ORA H"
  | .oraL => "ORA L"
  | .oraM => "ORA M"
  | .oraA => "ORA A"
  | .cmpB => "CMP B"
  | .cmpC => "CMP C"
  | .cmpD => "CMP D"
  | .cmpE => "CMP E"
  | .cmpH => "CMP H"
  | .cmpL => "CMP L"
  | .cmpM => "CMP M"
  | .cmpA => "CMP A"
  | .rnz => "RNZ"
  | .popB => "POP B"
  | .jnz v => "JNZ " ++ toString v.toNat
  | .jmp v => "JMP " ++ toString v.toNat
  | .cnz v => "CNZ " ++ toString v.toNat
  | .pushB => "PUSH B"
  | .adi v => "ADI " ++ toString v.toNat
  | .rst0 => "RST 0"
  | .rz => "RZ"
  | .ret => "RET"
  | .jz v => "JZ " ++ toString v.toNat
  | .cz v => "CZ " ++ toString v.toNat
  | .call v => "CALL " ++ toString v.toNat
  | .aci v => "ACI " ++ toString v.toNat
  | .rst1 => "RST 1"
  | .rnc => "RNC"
  | .popD => "POP D"
  | .jnc v => "JNC " ++ toString v.toNat
  | .outP8 v => "OUT " ++ toString v.toNat
  | .cnc v => "CNC " ++ toString v.toNat
  | .pushD => "PUSH D"
  | .sui v => "SUI " ++ toString v.toNat
  | .rst2 => "RST 2"
  | .rc => "RC"
  | .jc v => "JC " ++ toString v.toNat
  | .inP8 v => "IN " ++ toString v.toNat
  | .cc v => "CC " ++ toString v.toNat
  | .sbi v => "SBI " ++ toString v.toNat
  | .rst3 => "RST 3"
  | .rpo => "RPO"
  | .popH => "POP H"
  | .jpo v => "JPO " ++ toString v.toNat
  | .xthl => "XTHL"
  | .cpo v => "CPO " ++ toString v.toNat
  | .pushH => "PUSH H"
  | .ani v => "ANI " ++ toString v.toNat
  | .rst4 => "RST 4"
  | .rpe => "RPE"
  | .pchl => "PCHL"
  | .jpe v => "JPE " ++ toString v.toNat
  | .xchg => "XCHG"
  | .cpe v => "CPE " ++ toString v.toNat
  | .xri v => "XRI " ++ toString v.toNat
  | .rst5 => "RST 5"
  | .rp => "RP"
  | .popPSW => "POP PSW"
  | .jp v => "JP " ++ toString v.toNat
  | .di => "DI"
  | .cp v => "CP " ++ toString v.toNat
  | .pushPSW => "PUSH PSW"
  | .ori v => "ORI " ++ toString v.toNat
  | .rst6 => "RST 6"
  | .rm => "RM"
  | .sphl => "SPHL"
  | .jm v => "JM " ++ toString v.toNat
  | .ei => "EI"
  | .cm v => "CM " ++ toString v.toNat
  | .cpi v => "CPI " ++ toString v.toNat
  | .rst7 => "RST 7"
  | .illegal op => "illegal " ++ toString op.toNat

end Sys2Proof
end

