-- ==== Sys2Proof/Tests/Slice0.lean ====
section
/-! SUPPORT. Tests. The expected results come from the spec: the encodings of `30_encoding.md` and of each instruction's
rule, the derived vectors of `95_test_vectors.md` (a test is named after its vector), and its programs. -/

open Sys2Proof Sys2Proof.Machine

namespace Sys2Proof.Tests

/-! Well-formedness. -/

theorem test_wf_refuses_illegal_of_a_legal_byte : (Instr.illegal 0x00).wf = false := by decide

theorem test_wf_refuses_illegal_of_hlt : (Instr.illegal 0x76).wf = false := by decide

theorem test_wf_accepts_the_twelve : illegalBytes.all (fun b => (Instr.illegal b).wf) = true := by decide

theorem test_ill_formed_term_is_a_mismatch : exec (.illegal 0x00) State.reset = .fault .decoderMismatch := by rfl

/-! Decoding. Each word is written bit by bit from its rule's encoding; the bytes after the opcode are 0x34 and 0x12.
One theorem for each row of sixteen opcodes, the illegal bytes of R101 among them. -/

theorem test_decode_row_0 :
    ([0b00000000, 0b00000001, 0b00000010, 0b00000011, 0b00000100, 0b00000101, 0b00000110, 0b00000111,
      0b00001000, 0b00001001, 0b00001010, 0b00001011, 0b00001100, 0b00001101, 0b00001110, 0b00001111] : List Byte).map (fun b => decode b 0x34 0x12) =
     [.nop, .lxiB 0x1234, .staxB, .inxB, .inrB, .dcrB, .mviB 0x34, .rlc,
      .illegal 0x08, .dadB, .ldaxB, .dcxB, .inrC, .dcrC, .mviC 0x34, .rrc] := by
  decide

theorem test_decode_row_1 :
    ([0b00010000, 0b00010001, 0b00010010, 0b00010011, 0b00010100, 0b00010101, 0b00010110, 0b00010111,
      0b00011000, 0b00011001, 0b00011010, 0b00011011, 0b00011100, 0b00011101, 0b00011110, 0b00011111] : List Byte).map (fun b => decode b 0x34 0x12) =
     [.illegal 0x10, .lxiD 0x1234, .staxD, .inxD, .inrD, .dcrD, .mviD 0x34, .ral,
      .illegal 0x18, .dadD, .ldaxD, .dcxD, .inrE, .dcrE, .mviE 0x34, .rar] := by
  decide

theorem test_decode_row_2 :
    ([0b00100000, 0b00100001, 0b00100010, 0b00100011, 0b00100100, 0b00100101, 0b00100110, 0b00100111,
      0b00101000, 0b00101001, 0b00101010, 0b00101011, 0b00101100, 0b00101101, 0b00101110, 0b00101111] : List Byte).map (fun b => decode b 0x34 0x12) =
     [.illegal 0x20, .lxiH 0x1234, .shld 0x1234, .inxH, .inrH, .dcrH, .mviH 0x34, .daa,
      .illegal 0x28, .dadH, .lhld 0x1234, .dcxH, .inrL, .dcrL, .mviL 0x34, .cma] := by
  decide

theorem test_decode_row_3 :
    ([0b00110000, 0b00110001, 0b00110010, 0b00110011, 0b00110100, 0b00110101, 0b00110110, 0b00110111,
      0b00111000, 0b00111001, 0b00111010, 0b00111011, 0b00111100, 0b00111101, 0b00111110, 0b00111111] : List Byte).map (fun b => decode b 0x34 0x12) =
     [.illegal 0x30, .lxiSP 0x1234, .sta 0x1234, .inxSP, .inrM, .dcrM, .mviM 0x34, .stc,
      .illegal 0x38, .dadSP, .lda 0x1234, .dcxSP, .inrA, .dcrA, .mviA 0x34, .cmc] := by
  decide

theorem test_decode_row_4 :
    ([0b01000000, 0b01000001, 0b01000010, 0b01000011, 0b01000100, 0b01000101, 0b01000110, 0b01000111,
      0b01001000, 0b01001001, 0b01001010, 0b01001011, 0b01001100, 0b01001101, 0b01001110, 0b01001111] : List Byte).map (fun b => decode b 0x34 0x12) =
     [.movBB, .movBC, .movBD, .movBE, .movBH, .movBL, .movBM, .movBA,
      .movCB, .movCC, .movCD, .movCE, .movCH, .movCL, .movCM, .movCA] := by
  decide

theorem test_decode_row_5 :
    ([0b01010000, 0b01010001, 0b01010010, 0b01010011, 0b01010100, 0b01010101, 0b01010110, 0b01010111,
      0b01011000, 0b01011001, 0b01011010, 0b01011011, 0b01011100, 0b01011101, 0b01011110, 0b01011111] : List Byte).map (fun b => decode b 0x34 0x12) =
     [.movDB, .movDC, .movDD, .movDE, .movDH, .movDL, .movDM, .movDA,
      .movEB, .movEC, .movED, .movEE, .movEH, .movEL, .movEM, .movEA] := by
  decide

theorem test_decode_row_6 :
    ([0b01100000, 0b01100001, 0b01100010, 0b01100011, 0b01100100, 0b01100101, 0b01100110, 0b01100111,
      0b01101000, 0b01101001, 0b01101010, 0b01101011, 0b01101100, 0b01101101, 0b01101110, 0b01101111] : List Byte).map (fun b => decode b 0x34 0x12) =
     [.movHB, .movHC, .movHD, .movHE, .movHH, .movHL, .movHM, .movHA,
      .movLB, .movLC, .movLD, .movLE, .movLH, .movLL, .movLM, .movLA] := by
  decide

theorem test_decode_row_7 :
    ([0b01110000, 0b01110001, 0b01110010, 0b01110011, 0b01110100, 0b01110101, 0b01110110, 0b01110111,
      0b01111000, 0b01111001, 0b01111010, 0b01111011, 0b01111100, 0b01111101, 0b01111110, 0b01111111] : List Byte).map (fun b => decode b 0x34 0x12) =
     [.movMB, .movMC, .movMD, .movME, .movMH, .movML, .hlt, .movMA,
      .movAB, .movAC, .movAD, .movAE, .movAH, .movAL, .movAM, .movAA] := by
  decide

theorem test_decode_row_8 :
    ([0b10000000, 0b10000001, 0b10000010, 0b10000011, 0b10000100, 0b10000101, 0b10000110, 0b10000111,
      0b10001000, 0b10001001, 0b10001010, 0b10001011, 0b10001100, 0b10001101, 0b10001110, 0b10001111] : List Byte).map (fun b => decode b 0x34 0x12) =
     [.addB, .addC, .addD, .addE, .addH, .addL, .addM, .addA,
      .adcB, .adcC, .adcD, .adcE, .adcH, .adcL, .adcM, .adcA] := by
  decide

theorem test_decode_row_9 :
    ([0b10010000, 0b10010001, 0b10010010, 0b10010011, 0b10010100, 0b10010101, 0b10010110, 0b10010111,
      0b10011000, 0b10011001, 0b10011010, 0b10011011, 0b10011100, 0b10011101, 0b10011110, 0b10011111] : List Byte).map (fun b => decode b 0x34 0x12) =
     [.subB, .subC, .subD, .subE, .subH, .subL, .subM, .subA,
      .sbbB, .sbbC, .sbbD, .sbbE, .sbbH, .sbbL, .sbbM, .sbbA] := by
  decide

theorem test_decode_row_A :
    ([0b10100000, 0b10100001, 0b10100010, 0b10100011, 0b10100100, 0b10100101, 0b10100110, 0b10100111,
      0b10101000, 0b10101001, 0b10101010, 0b10101011, 0b10101100, 0b10101101, 0b10101110, 0b10101111] : List Byte).map (fun b => decode b 0x34 0x12) =
     [.anaB, .anaC, .anaD, .anaE, .anaH, .anaL, .anaM, .anaA,
      .xraB, .xraC, .xraD, .xraE, .xraH, .xraL, .xraM, .xraA] := by
  decide

theorem test_decode_row_B :
    ([0b10110000, 0b10110001, 0b10110010, 0b10110011, 0b10110100, 0b10110101, 0b10110110, 0b10110111,
      0b10111000, 0b10111001, 0b10111010, 0b10111011, 0b10111100, 0b10111101, 0b10111110, 0b10111111] : List Byte).map (fun b => decode b 0x34 0x12) =
     [.oraB, .oraC, .oraD, .oraE, .oraH, .oraL, .oraM, .oraA,
      .cmpB, .cmpC, .cmpD, .cmpE, .cmpH, .cmpL, .cmpM, .cmpA] := by
  decide

theorem test_decode_row_C :
    ([0b11000000, 0b11000001, 0b11000010, 0b11000011, 0b11000100, 0b11000101, 0b11000110, 0b11000111,
      0b11001000, 0b11001001, 0b11001010, 0b11001011, 0b11001100, 0b11001101, 0b11001110, 0b11001111] : List Byte).map (fun b => decode b 0x34 0x12) =
     [.rnz, .popB, .jnz 0x1234, .jmp 0x1234, .cnz 0x1234, .pushB, .adi 0x34, .rst0,
      .rz, .ret, .jz 0x1234, .illegal 0xCB, .cz 0x1234, .call 0x1234, .aci 0x34, .rst1] := by
  decide

theorem test_decode_row_D :
    ([0b11010000, 0b11010001, 0b11010010, 0b11010011, 0b11010100, 0b11010101, 0b11010110, 0b11010111,
      0b11011000, 0b11011001, 0b11011010, 0b11011011, 0b11011100, 0b11011101, 0b11011110, 0b11011111] : List Byte).map (fun b => decode b 0x34 0x12) =
     [.rnc, .popD, .jnc 0x1234, .outP8 0x34, .cnc 0x1234, .pushD, .sui 0x34, .rst2,
      .rc, .illegal 0xD9, .jc 0x1234, .inP8 0x34, .cc 0x1234, .illegal 0xDD, .sbi 0x34, .rst3] := by
  decide

theorem test_decode_row_E :
    ([0b11100000, 0b11100001, 0b11100010, 0b11100011, 0b11100100, 0b11100101, 0b11100110, 0b11100111,
      0b11101000, 0b11101001, 0b11101010, 0b11101011, 0b11101100, 0b11101101, 0b11101110, 0b11101111] : List Byte).map (fun b => decode b 0x34 0x12) =
     [.rpo, .popH, .jpo 0x1234, .xthl, .cpo 0x1234, .pushH, .ani 0x34, .rst4,
      .rpe, .pchl, .jpe 0x1234, .xchg, .cpe 0x1234, .illegal 0xED, .xri 0x34, .rst5] := by
  decide

theorem test_decode_row_F :
    ([0b11110000, 0b11110001, 0b11110010, 0b11110011, 0b11110100, 0b11110101, 0b11110110, 0b11110111,
      0b11111000, 0b11111001, 0b11111010, 0b11111011, 0b11111100, 0b11111101, 0b11111110, 0b11111111] : List Byte).map (fun b => decode b 0x34 0x12) =
     [.rp, .popPSW, .jp 0x1234, .di, .cp 0x1234, .pushPSW, .ori 0x34, .rst6,
      .rm, .sphl, .jm 0x1234, .ei, .cm 0x1234, .illegal 0xFD, .cpi 0x34, .rst7] := by
  decide

theorem test_encode_words :
    encode (.jpe 0xBEEF) = [0b11101010, 0xEF, 0xBE] ∧ encode (.mviM 0x7F) = [0b00110110, 0x7F] ∧
    encode .movLH = [0b01101100] ∧ encode .dcxSP = [0b00111011] ∧ encode (.illegal 0xDD) = [0b11011101] := by
  decide

theorem test_decode_table_word_lxi : decodeTableWord 24 0x123401 = some (.lxiB 0x1234) := by decide

theorem test_decode_table_word_drops_high_bits : decodeTableWord 8 0x123401 = some (.lxiB 0x0000) := by decide

theorem test_fetch_word_runs_next :
    step (State.reset.withFetchWord 16 0x053E) = .next { State.reset.withFetchWord 16 0x053E with a := 0x05, pc := 0x0002 } := by
  rfl

/-! One step. -/

/-- The bytes at consecutive addresses from `a` on. -/
def store : Word → List Byte → State → State
  | _, [], s => s
  | a, v :: rest, s => store (a + 1) rest (s.memWrite a v)

/-- The step of the word `bytes` at `pc` from `s` answers a next state that passes the check. -/
def runs (pc : Word) (bytes : List Byte) (s : State) (check : State → Bool) : Bool :=
  match step { store pc bytes s with pc := pc } with
  | .next t => check t
  | .fault _ => false
  | .refused _ => false

/-- The flags in the order S, Z, AC, P, CY. -/
def flagBits (s z ac p cy : Bool) : Flags := { s := s, z := z, ac := ac, p := p, cy := cy }

/-- The vectors' default state (`95_test_vectors.md`). -/
def base : State := { State.reset with sp := 0xF000 }

theorem test_V40_1 :
    runs 0x0100 [0x08] base (fun t =>
      t.stop == .faulted .decodeFailure 0x08 0x0100 && t.pc == 0x0100 && t.flags == flagBits false false false false false) = true := by decide

theorem test_V40_2 :
    runs 0x2000 [0xCB] { base with a := 0x11 } (fun t =>
      t.stop == .faulted .decodeFailure 0xCB 0x2000 && t.pc == 0x2000 && t.flags == flagBits false false false false false) = true := by decide

theorem test_V40_3 :
    runs 0xFFFF [0xFD] base (fun t =>
      t.stop == .faulted .decodeFailure 0xFD 0xFFFF && t.pc == 0xFFFF && t.flags == flagBits false false false false false) = true := by decide

theorem test_V40_4 :
    runs 0xFFFF [0x00] base (fun t =>
      t.stop == .endOfAddressSpace && t.pc == 0xFFFF && t.flags == flagBits false false false false false) = true := by decide

theorem test_V40_5 :
    runs 0xFFFF [0x3E, 0x05] base (fun t =>
      t.stop == .endOfAddressSpace && t.pc == 0xFFFF && t.flags == flagBits false false false false false) = true := by decide

theorem test_V40_6 :
    runs 0xFFFE [0x3E, 0x05] base (fun t =>
      t.a == 0x05 && t.stop == .endOfAddressSpace && t.pc == 0xFFFE && t.flags == flagBits false false false false false) = true := by decide

theorem test_V40_7 :
    runs 0xFFFE [0x21, 0x34, 0x12] base (fun t =>
      t.stop == .endOfAddressSpace && t.pc == 0xFFFE && t.flags == flagBits false false false false false) = true := by decide

theorem test_V40_8 :
    runs 0xFFFD [0x21, 0x34, 0x12] base (fun t =>
      t.h == 0x12 && t.l == 0x34 && t.stop == .endOfAddressSpace && t.pc == 0xFFFD && t.flags == flagBits false false false false false) = true := by decide

theorem test_V40_9 :
    runs 0xFFFD [0xC3, 0x00, 0x00] base (fun t =>
      t.pc == 0x0000 && t.flags == flagBits false false false false false) = true := by decide

theorem test_V40_10 :
    runs 0xFFFD [0xC2, 0x00, 0x00] { base with flags := flagBits false true false false false } (fun t =>
      t.stop == .endOfAddressSpace && t.pc == 0xFFFD && t.flags == flagBits false true false false false) = true := by decide

theorem test_V40_11 :
    runs 0xFFFF [0xC9] (store 0xEFFE [0x00] (store 0xEFFF [0x10] { base with sp := 0xEFFE })) (fun t =>
      t.sp == 0xF000 && t.pc == 0x1000 && t.flags == flagBits false false false false false) = true := by decide

theorem test_V40_12 :
    runs 0xFFFF [0xC8] (store 0xEFFE [0x00] (store 0xEFFF [0x10] { base with sp := 0xEFFE, flags := flagBits false false false false false })) (fun t =>
      t.stop == .endOfAddressSpace && t.pc == 0xFFFF && t.flags == flagBits false false false false false) = true := by decide

theorem test_V40_13 :
    runs 0xFFFF [0xC7] base (fun t =>
      t.sp == 0xEFFE && t.pc == 0x0000 && t.memRead 0xEFFE == 0x00 && t.memRead 0xEFFF == 0x00 && t.flags == flagBits false false false false false) = true := by decide

theorem test_V40_14 :
    runs 0xFFFD [0xCD, 0x00, 0x10] base (fun t =>
      t.sp == 0xEFFE && t.pc == 0x1000 && t.memRead 0xEFFE == 0x00 && t.memRead 0xEFFF == 0x00 && t.flags == flagBits false false false false false) = true := by decide

theorem test_V41_2 :
    runs 0x0000 [0x80] { base with a := 0xFF, b := 0x01 } (fun t =>
      t.a == 0x00 && t.pc == 0x0001 && t.flags == flagBits false true true true true) = true := by decide

theorem test_V41_3 :
    runs 0x0000 [0x81] { base with a := 0x0F, c := 0x01 } (fun t =>
      t.a == 0x10 && t.pc == 0x0001 && t.flags == flagBits false false true false false) = true := by decide

theorem test_V41_4 :
    runs 0x0000 [0x82] { base with a := 0x7F, d := 0x01 } (fun t =>
      t.a == 0x80 && t.pc == 0x0001 && t.flags == flagBits true false true false false) = true := by decide

theorem test_V41_7 :
    runs 0x0000 [0x86] (store 0x2000 [0x25] { base with a := 0x10, h := 0x20, l := 0x00 }) (fun t =>
      t.a == 0x35 && t.pc == 0x0001 && t.flags == flagBits false false false true false) = true := by decide

theorem test_V41_8 :
    runs 0x0000 [0x88] { base with a := 0x0E, b := 0x01, flags := flagBits false false false false true } (fun t =>
      t.a == 0x10 && t.pc == 0x0001 && t.flags == flagBits false false false false false) = true := by decide

theorem test_V41_9 :
    runs 0x0000 [0x88] { base with a := 0xFE, b := 0x01, flags := flagBits false false false false true } (fun t =>
      t.a == 0x00 && t.pc == 0x0001 && t.flags == flagBits false true false true true) = true := by decide

theorem test_V41_12 :
    runs 0x0000 [0x90] { base with a := 0x05, b := 0x06 } (fun t =>
      t.a == 0xFF && t.pc == 0x0001 && t.flags == flagBits true false true true true) = true := by decide

theorem test_V41_13 :
    runs 0x0000 [0x90] { base with a := 0x10, b := 0x01 } (fun t =>
      t.a == 0x0F && t.pc == 0x0001 && t.flags == flagBits false false true true false) = true := by decide

theorem test_V41_15 :
    runs 0x0000 [0x99] { base with a := 0x05, c := 0x05, flags := flagBits false false false false true } (fun t =>
      t.a == 0xFF && t.pc == 0x0001 && t.flags == flagBits true false false true true) = true := by decide

theorem test_V41_16 :
    runs 0x0000 [0xDE, 0xFF] { base with a := 0x00, flags := flagBits false false false false true } (fun t =>
      t.pc == 0x0002 && t.flags == flagBits false true true true true) = true := by decide

theorem test_V41_17 :
    runs 0x0000 [0xA1] { base with a := 0xFC, c := 0x0F, flags := flagBits false false true false true } (fun t =>
      t.a == 0x0C && t.pc == 0x0001 && t.flags == flagBits false false false true false) = true := by decide

theorem test_V41_18 :
    runs 0x0000 [0xAF] { base with a := 0x5C, flags := flagBits false false false false true } (fun t =>
      t.a == 0x00 && t.pc == 0x0001 && t.flags == flagBits false true false true false) = true := by decide

theorem test_V41_19 :
    runs 0x0000 [0xB0] { base with a := 0x80, b := 0x01, flags := flagBits false false false false true } (fun t =>
      t.a == 0x81 && t.pc == 0x0001 && t.flags == flagBits true false false true false) = true := by decide

theorem test_V41_22 :
    runs 0x0000 [0xB8] { base with a := 0x05, b := 0x0A } (fun t =>
      t.pc == 0x0001 && t.flags == flagBits true false true false true) = true := by decide

theorem test_V41_24 :
    runs 0x0000 [0xFE, 0x03] { base with a := 0x02 } (fun t =>
      t.pc == 0x0002 && t.flags == flagBits true false true true true) = true := by decide

theorem test_V41_26 :
    runs 0x0000 [0xEE, 0xFF] { base with a := 0xFF } (fun t =>
      t.a == 0x00 && t.pc == 0x0002 && t.flags == flagBits false true false true false) = true := by decide

theorem test_V42_3 :
    runs 0x0000 [0xC2, 0x37, 0x13] { base with flags := flagBits false true false false false } (fun t =>
      t.pc == 0x0003 && t.flags == flagBits false true false false false) = true := by decide

theorem test_V42_4 :
    runs 0x0000 [0xC2, 0x37, 0x13] { base with flags := flagBits false false false false false } (fun t =>
      t.pc == 0x1337 && t.flags == flagBits false false false false false) = true := by decide

theorem test_V42_6 :
    runs 0x0000 [0xD2, 0x34, 0x12] { base with flags := flagBits false false false false false } (fun t =>
      t.pc == 0x1234 && t.flags == flagBits false false false false false) = true := by decide

theorem test_V42_7 :
    runs 0x0000 [0xDA, 0x34, 0x12] { base with flags := flagBits false false false false true } (fun t =>
      t.pc == 0x1234 && t.flags == flagBits false false false false true) = true := by decide

theorem test_V42_8 :
    runs 0x0000 [0xE2, 0x34, 0x12] { base with flags := flagBits false false false false false } (fun t =>
      t.pc == 0x1234 && t.flags == flagBits false false false false false) = true := by decide

theorem test_V42_9 :
    runs 0x0000 [0xEA, 0x34, 0x12] { base with flags := flagBits false false false true false } (fun t =>
      t.pc == 0x1234 && t.flags == flagBits false false false true false) = true := by decide

theorem test_V42_10 :
    runs 0x0000 [0xF2, 0x34, 0x12] { base with flags := flagBits false false false false false } (fun t =>
      t.pc == 0x1234 && t.flags == flagBits false false false false false) = true := by decide

theorem test_V42_11 :
    runs 0x0000 [0xFA, 0x34, 0x12] { base with flags := flagBits true false false false false } (fun t =>
      t.pc == 0x1234 && t.flags == flagBits true false false false false) = true := by decide

theorem test_V42_12 :
    runs 0x0000 [0xFA, 0x34, 0x12] { base with flags := flagBits false false false false false } (fun t =>
      t.pc == 0x0003 && t.flags == flagBits false false false false false) = true := by decide

theorem test_V42_14 :
    runs 0x0100 [0xCD, 0x00, 0x20] { base with sp := 0x0001 } (fun t =>
      t.sp == 0xFFFF && t.pc == 0x2000 && t.memRead 0x0000 == 0x01 && t.memRead 0xFFFF == 0x03 && t.flags == flagBits false false false false false) = true := by decide

theorem test_V42_16 :
    runs 0x0200 [0xC4, 0x00, 0x30] { base with flags := flagBits false true false false false } (fun t =>
      t.pc == 0x0203 && t.flags == flagBits false true false false false) = true := by decide

theorem test_V42_17 :
    runs 0x0200 [0xDC, 0x00, 0x30] { base with flags := flagBits false false false false true } (fun t =>
      t.sp == 0xEFFE && t.pc == 0x3000 && t.memRead 0xEFFE == 0x03 && t.memRead 0xEFFF == 0x02 && t.flags == flagBits false false false false true) = true := by decide

theorem test_V42_19 :
    runs 0x0100 [0xC9] (store 0xFFFF [0x34] (store 0x0000 [0x12] { base with sp := 0xFFFF })) (fun t =>
      t.sp == 0x0001 && t.pc == 0x1234 && t.flags == flagBits false false false false false) = true := by decide

theorem test_V42_21 :
    runs 0x1000 [0xC8] (store 0xEFFE [0x00] (store 0xEFFF [0x20] { base with sp := 0xEFFE, flags := flagBits false false false false false })) (fun t =>
      t.pc == 0x1001 && t.flags == flagBits false false false false false) = true := by decide

theorem test_V42_25 :
    runs 0x0100 [0xEF] { base with sp := 0x0000 } (fun t =>
      t.sp == 0xFFFE && t.pc == 0x0028 && t.memRead 0xFFFE == 0x01 && t.memRead 0xFFFF == 0x01 && t.flags == flagBits false false false false false) = true := by decide

theorem test_V42_26 :
    runs 0x0000 [0xE9] { base with h := 0x12, l := 0x34 } (fun t =>
      t.pc == 0x1234 && t.flags == flagBits false false false false false) = true := by decide

theorem test_V43_3 :
    runs 0x0100 [0xE5] { base with h := 0x01, l := 0x02, sp := 0x0001 } (fun t =>
      t.sp == 0xFFFF && t.pc == 0x0101 && t.memRead 0x0000 == 0x01 && t.memRead 0xFFFF == 0x02 && t.flags == flagBits false false false false false) = true := by decide

theorem test_V43_4 :
    runs 0x0000 [0xF5] { base with a := 0x1F, flags := flagBits false true false true true } (fun t =>
      t.sp == 0xEFFE && t.pc == 0x0001 && t.memRead 0xEFFE == 0x1F && t.memRead 0xEFFF == 0x47 && t.flags == flagBits false true false true true) = true := by decide

theorem test_V43_6 :
    runs 0x0100 [0xD1] (store 0xFFFF [0x78] (store 0x0000 [0x56] { base with sp := 0xFFFF })) (fun t =>
      t.d == 0x56 && t.e == 0x78 && t.sp == 0x0001 && t.pc == 0x0101 && t.flags == flagBits false false false false false) = true := by decide

theorem test_V43_7 :
    runs 0x0000 [0xF1] (store 0xEFFE [0x55] (store 0xEFFF [0xFF] { base with sp := 0xEFFE })) (fun t =>
      t.a == 0x55 && t.sp == 0xF000 && t.pc == 0x0001 && t.flags == flagBits true true true true true) = true := by decide

theorem test_V43_8 :
    runs 0x0000 [0xF1] (store 0xEFFE [0x00] (store 0xEFFF [0x00] { base with sp := 0xEFFE, a := 0x99, flags := flagBits true false false false true })) (fun t =>
      t.a == 0x00 && t.sp == 0xF000 && t.pc == 0x0001 && t.flags == flagBits false false false false false) = true := by decide

theorem test_V43_10 :
    runs 0x0100 [0xE3] (store 0xFFFF [0x11] { base with h := 0xAA, l := 0xBB, sp := 0xFFFF }) (fun t =>
      t.h == 0x00 && t.l == 0x11 && t.pc == 0x0101 && t.memRead 0x0000 == 0xAA && t.memRead 0xFFFF == 0xBB && t.flags == flagBits false false false false false) = true := by decide

theorem test_V43_11 :
    runs 0x0000 [0xF9] { base with h := 0x80, l := 0x00 } (fun t =>
      t.sp == 0x8000 && t.pc == 0x0001 && t.flags == flagBits false false false false false) = true := by decide

theorem test_V44_1 :
    runs 0x0000 [0x41] { base with c := 0x5A } (fun t =>
      t.b == 0x5A && t.pc == 0x0001 && t.flags == flagBits false false false false false) = true := by decide

theorem test_V44_3 :
    runs 0x0000 [0x7E] (store 0x2000 [0x9C] { base with h := 0x20, l := 0x00 }) (fun t =>
      t.a == 0x9C && t.pc == 0x0001 && t.flags == flagBits false false false false false) = true := by decide

theorem test_V44_4 :
    runs 0x0000 [0x73] { base with h := 0x20, l := 0x01, e := 0x42 } (fun t =>
      t.pc == 0x0001 && t.memRead 0x2001 == 0x42 && t.flags == flagBits false false false false false) = true := by decide

theorem test_V44_7 :
    runs 0x0000 [0x36, 0xEE] { base with h := 0x30, l := 0x00 } (fun t =>
      t.pc == 0x0002 && t.memRead 0x3000 == 0xEE && t.flags == flagBits false false false false false) = true := by decide

theorem test_V44_8 :
    runs 0x0000 [0x01, 0x34, 0x12] base (fun t =>
      t.b == 0x12 && t.c == 0x34 && t.pc == 0x0003 && t.flags == flagBits false false false false false) = true := by decide

theorem test_V44_9 :
    runs 0x0000 [0x31, 0xFF, 0xFF] base (fun t =>
      t.sp == 0xFFFF && t.pc == 0x0003 && t.flags == flagBits false false false false false) = true := by decide

theorem test_V44_11 :
    runs 0x0000 [0x3A, 0x00, 0x20] (store 0x2000 [0x66] base) (fun t =>
      t.a == 0x66 && t.pc == 0x0003 && t.flags == flagBits false false false false false) = true := by decide

theorem test_V44_12 :
    runs 0x0100 [0x32, 0xFF, 0xFF] { base with a := 0x99 } (fun t =>
      t.pc == 0x0103 && t.memRead 0xFFFF == 0x99 && t.flags == flagBits false false false false false) = true := by decide

theorem test_V44_14 :
    runs 0x0100 [0x2A, 0xFF, 0xFF] (store 0xFFFF [0xCD] (store 0x0000 [0xAB] base)) (fun t =>
      t.h == 0xAB && t.l == 0xCD && t.pc == 0x0103 && t.flags == flagBits false false false false false) = true := by decide

theorem test_V44_15 :
    runs 0x0000 [0x22, 0x00, 0x20] { base with h := 0x12, l := 0x34 } (fun t =>
      t.pc == 0x0003 && t.memRead 0x2000 == 0x34 && t.memRead 0x2001 == 0x12 && t.flags == flagBits false false false false false) = true := by decide

theorem test_V44_16 :
    runs 0x0000 [0x0A] (store 0x2000 [0x5E] { base with b := 0x20, c := 0x00 }) (fun t =>
      t.a == 0x5E && t.pc == 0x0001 && t.flags == flagBits false false false false false) = true := by decide

theorem test_V44_17 :
    runs 0x0000 [0x12] { base with a := 0x5E, d := 0x20, e := 0x10 } (fun t =>
      t.pc == 0x0001 && t.memRead 0x2010 == 0x5E && t.flags == flagBits false false false false false) = true := by decide

theorem test_V44_18 :
    runs 0x0000 [0xEB] { base with d := 0x11, e := 0x22, h := 0x33, l := 0x44 } (fun t =>
      t.d == 0x33 && t.e == 0x44 && t.h == 0x11 && t.l == 0x22 && t.pc == 0x0001 && t.flags == flagBits false false false false false) = true := by decide

theorem test_V45_2 :
    runs 0x0000 [0x0C] { base with c := 0xFF } (fun t =>
      t.c == 0x00 && t.pc == 0x0001 && t.flags == flagBits false true true true false) = true := by decide

theorem test_V45_3 :
    runs 0x0000 [0x3C] { base with a := 0x7F, flags := flagBits false false false false true } (fun t =>
      t.a == 0x80 && t.pc == 0x0001 && t.flags == flagBits true false true false true) = true := by decide

theorem test_V45_4 :
    runs 0x0000 [0x34] (store 0x2000 [0x41] { base with h := 0x20, l := 0x00 }) (fun t =>
      t.pc == 0x0001 && t.memRead 0x2000 == 0x42 && t.flags == flagBits false false false true false) = true := by decide

theorem test_V45_6 :
    runs 0x0000 [0x1D] { base with e := 0x00 } (fun t =>
      t.e == 0xFF && t.pc == 0x0001 && t.flags == flagBits true false true true false) = true := by decide

theorem test_V45_7 :
    runs 0x0000 [0x3D] { base with a := 0x80, flags := flagBits false false false false true } (fun t =>
      t.a == 0x7F && t.pc == 0x0001 && t.flags == flagBits false false true false true) = true := by decide

theorem test_V45_9 :
    runs 0x0000 [0x35] (store 0x2000 [0x01] { base with h := 0x20, l := 0x00 }) (fun t =>
      t.pc == 0x0001 && t.memRead 0x2000 == 0x00 && t.flags == flagBits false true false true false) = true := by decide

theorem test_V45_10 :
    runs 0x0000 [0x03] { base with b := 0x00, c := 0xFF } (fun t =>
      t.b == 0x01 && t.c == 0x00 && t.pc == 0x0001 && t.flags == flagBits false false false false false) = true := by decide

theorem test_V45_12 :
    runs 0x0000 [0x33] { base with sp := 0xFFFF } (fun t =>
      t.sp == 0x0000 && t.pc == 0x0001 && t.flags == flagBits false false false false false) = true := by decide

theorem test_V45_13 :
    runs 0x0000 [0x1B] { base with d := 0x00, e := 0x00 } (fun t =>
      t.d == 0xFF && t.e == 0xFF && t.pc == 0x0001 && t.flags == flagBits false false false false false) = true := by decide

theorem test_V45_15 :
    runs 0x0000 [0x19] { base with h := 0xFF, l := 0xFF, d := 0x00, e := 0x01 } (fun t =>
      t.h == 0x00 && t.l == 0x00 && t.pc == 0x0001 && t.flags == flagBits false false false false true) = true := by decide

theorem test_V45_17 :
    runs 0x0000 [0x39] { base with h := 0x00, l := 0x01, sp := 0xFFFF, flags := flagBits false true false false false } (fun t =>
      t.l == 0x00 && t.pc == 0x0001 && t.flags == flagBits false true false false true) = true := by decide

theorem test_V46_1 :
    runs 0x0000 [0x07] { base with a := 0x85 } (fun t =>
      t.a == 0x0B && t.pc == 0x0001 && t.flags == flagBits false false false false true) = true := by decide

theorem test_V46_2 :
    runs 0x0000 [0x0F] { base with a := 0x01 } (fun t =>
      t.a == 0x80 && t.pc == 0x0001 && t.flags == flagBits false false false false true) = true := by decide

theorem test_V46_3 :
    runs 0x0000 [0x17] { base with a := 0x85, flags := flagBits false false false false false } (fun t =>
      t.a == 0x0A && t.pc == 0x0001 && t.flags == flagBits false false false false true) = true := by decide

theorem test_V46_4 :
    runs 0x0000 [0x1F] { base with a := 0x01, flags := flagBits false false false false true } (fun t =>
      t.a == 0x80 && t.pc == 0x0001 && t.flags == flagBits false false false false true) = true := by decide

theorem test_V46_9 :
    runs 0x0000 [0x27] { base with a := 0x99, flags := flagBits false false false false true } (fun t =>
      t.a == 0xF9 && t.pc == 0x0001 && t.flags == flagBits true false false true true) = true := by decide

theorem test_V46_10 :
    runs 0x0000 [0x27] { base with a := 0x99, flags := flagBits false false true false false } (fun t =>
      t.a == 0x9F && t.pc == 0x0001 && t.flags == flagBits true false false true false) = true := by decide

theorem test_V46_13 :
    runs 0x0000 [0x2F] { base with a := 0x51 } (fun t =>
      t.a == 0xAE && t.pc == 0x0001 && t.flags == flagBits false false false false false) = true := by decide

theorem test_V46_14 :
    runs 0x0000 [0x37] base (fun t =>
      t.pc == 0x0001 && t.flags == flagBits false false false false true) = true := by decide

theorem test_V46_15 :
    runs 0x0000 [0x3F] { base with flags := flagBits false false false false true } (fun t =>
      t.pc == 0x0001 && t.flags == flagBits false false false false false) = true := by decide

theorem test_V47_1 :
    runs 0x0000 [0x00] base (fun t =>
      t.pc == 0x0001 && t.flags == flagBits false false false false false) = true := by decide

theorem test_V47_2 :
    runs 0x0100 [0x76] base (fun t =>
      t.pc == 0x0101 && t.stop == .halted && t.flags == flagBits false false false false false) = true := by decide

theorem test_V47_3 :
    runs 0xFFFF [0x76] base (fun t =>
      t.pc == 0x0000 && t.stop == .halted && t.flags == flagBits false false false false false) = true := by decide

theorem test_V47_4 :
    runs 0x0000 [0xFB] base (fun t =>
      t.pc == 0x0001 && t.inte == true && t.flags == flagBits false false false false false) = true := by decide

theorem test_V47_5 :
    runs 0x0000 [0xF3] { base with inte := true } (fun t =>
      t.pc == 0x0001 && t.inte == false && t.flags == flagBits false false false false false) = true := by decide

theorem test_V47_6 :
    runs 0x0000 [0xD3, 0x10] { base with a := 0x42 } (fun t =>
      t.pc == 0x0002 && t.outLatch == 0x42 && t.flags == flagBits false false false false false) = true := by decide

/-- V47-8: IN takes the next byte of the oracle, whatever it is, and the count of IN steps advances. -/
theorem test_V47_8 :
    step { store 0x0000 [0xDB, 0x07] base with pc := 0x0000 } =
      .next { store 0x0000 [0xDB, 0x07] base with a := Config.input 0 0x07, pc := 0x0002, inCount := 1 } := rfl

/-- V40-15: a step of a stopped processor changes nothing. -/
theorem test_V40_15 :
    step { base with stop := .faulted .decodeFailure 0x08 0x0100 } =
      .next { base with stop := .faulted .decodeFailure 0x08 0x0100 } := by rfl

/-! The host operations. -/

/-- The `SP_RESET` of the vectors. -/
def spReset0 : Config.SpReset := ⟨0xF000, by decide⟩

/-- V40-17: reset of a halted processor. -/
theorem test_V40_17 :
    hostResetWith spReset0 { store 0x0100 [0x76] base with a := 0x11, pc := 0x0101, inte := true, outLatch := 0x22, stop := .halted } =
      store 0x0100 [0x76] base := by decide

/-- V40-18: reset of a faulted processor keeps STOP. -/
theorem test_V40_18 :
    (hostResetWith spReset0 { base with pc := 0x0100, stop := .faulted .decodeFailure 0x08 0x0100 }).stop =
      .faulted .decodeFailure 0x08 0x0100 := by decide

/-- V40-19: reset after the end of the address space keeps STOP. -/
theorem test_V40_19 : (hostResetWith spReset0 { base with pc := 0xFFFF, stop := .endOfAddressSpace }).stop = .endOfAddressSpace := by
  decide

/-- R600: the image lies at 0, and what it lists is canonical. -/
theorem test_construct_places_the_image :
    construct [0x3E, 0x00, 0x05] = .ok { State.reset with mem := [(0, 0x3E), (2, 0x05)] } := by rfl

/-- R156: the addresses follow by the lengths, and the listing stops after the illegal byte. -/
theorem test_peek_stops_after_an_illegal_byte :
    (peek 9 (store 0x0000 [0x3E, 0x05, 0xC3, 0x00, 0x10, 0x08, 0x00] base)).map (fun e => (e.1, e.2.instr)) =
      [(0x0000, .mviA 0x05), (0x0002, .jmp 0x1000), (0x0005, .illegal 0x08)] := by decide

/-- R106: a descriptor holds the bytes, the kind, the mode and the selectors; an illegal byte has none. -/
theorem test_describe :
    describe 0x3E 0x05 0xFF = .descriptor
      { opcode := 0x3E, b1 := 0x05, b2 := 0xFF, kind := .mvi, mode := .imm8, selectors := [.ddd 0b111] } ∧
    describe 0x78 0x01 0x02 = .descriptor
      { opcode := 0x78, b1 := 0x01, b2 := 0x02, kind := .mov, mode := .register, selectors := [.ddd 0b111, .sss 0b000] } ∧
    describe 0xDA 0x00 0x20 = .descriptor
      { opcode := 0xDA, b1 := 0x00, b2 := 0x20, kind := .jc, mode := .imm16, selectors := [.ccc 0b011] } ∧
    describe 0xCB 0x00 0x20 = .illegal 0xCB := by decide

/-- The kind and the selectors of a descriptor. -/
def kindAndSelectors (d : Decoded) : Option (Kind × List Selector) :=
  match d with
  | .illegal _ => none
  | .descriptor e => some (e.kind, e.selectors)

/-- R94, R95 and R106: MOV is one kind; the eight operations are eight kinds with the selectors `ooo` and `sss`. -/
theorem test_selectors_of_groups_01_and_10 :
    (∀ d r : Fin 8, ¬ (d = 6 ∧ r = 6) → kindAndSelectors (describe (.ofNat 8 (0x40 + 8 * d + r)) 0x00 0x00) =
      some (.mov, [.ddd (.ofFin d), .sss (.ofFin r)])) ∧
    (∀ o r : Fin 8, kindAndSelectors (describe (.ofNat 8 (0x80 + 8 * o + r)) 0x00 0x00) =
      ([Kind.add, .adc, .sub, .sbb, .ana, .xra, .ora, .cmp][o]?).map fun k => (k, [.ooo (.ofFin o), .sss (.ofFin r)])) := by
  decide

/-- The kind and the selectors of an opcode byte given as a number. -/
def kindOf (n : Nat) : Option (Kind × List Selector) := kindAndSelectors (describe (.ofNat 8 n) 0x00 0x00)

/-- R100 and R106: the selectors `ddd` and `rp` of group 00. -/
theorem test_selectors_of_group_00 :
    (∀ d : Fin 8, [kindOf (0x04 + 8 * d), kindOf (0x05 + 8 * d), kindOf (0x06 + 8 * d)] =
      [some (.inr, [.ddd (.ofFin d)]), some (.dcr, [.ddd (.ofFin d)]), some (.mvi, [.ddd (.ofFin d)])]) ∧
    (∀ p : Fin 4, [kindOf (0x01 + 16 * p), kindOf (0x03 + 16 * p), kindOf (0x09 + 16 * p), kindOf (0x0B + 16 * p)] =
      [some (.lxi, [.rp (.ofFin p)]), some (.inx, [.rp (.ofFin p)]), some (.dad, [.rp (.ofFin p)]),
        some (.dcx, [.rp (.ofFin p)])]) ∧
    [kindOf 0x02, kindOf 0x12, kindOf 0x0A, kindOf 0x1A] =
      [some (.stax, [.rp 0]), some (.stax, [.rp 1]), some (.ldax, [.rp 0]), some (.ldax, [.rp 1])] := by decide

/-- R97, R98 and R106: the selectors `rp`, `ooo` and `nnn` of group 11. -/
theorem test_selectors_of_group_11 :
    (∀ p : Fin 4, [kindOf (0xC1 + 16 * p), kindOf (0xC5 + 16 * p)] =
      [some (.pop, [.rp (.ofFin p)]), some (.push, [.rp (.ofFin p)])]) ∧
    (∀ o : Fin 8, kindOf (0xC6 + 8 * o) =
      ([Kind.adi, .aci, .sui, .sbi, .ani, .xri, .ori, .cpi][o]?).map fun k => (k, [.ooo (.ofFin o)])) ∧
    (∀ n : Fin 8, kindOf (0xC7 + 8 * n) = some (.rst, [.nnn (.ofFin n)])) := by decide

/-- R97, R99 and R106: the selector `ccc` of group 11. -/
theorem test_selectors_of_conditionals :
    (∀ c : Fin 8, kindOf (0xC0 + 8 * c) =
      ([Kind.rnz, .rz, .rnc, .rc, .rpo, .rpe, .rp, .rm][c]?).map fun k => (k, [.ccc (.ofFin c)])) ∧
    (∀ c : Fin 8, kindOf (0xC2 + 8 * c) =
      ([Kind.jnz, .jz, .jnc, .jc, .jpo, .jpe, .jp, .jm][c]?).map fun k => (k, [.ccc (.ofFin c)])) ∧
    (∀ c : Fin 8, kindOf (0xC4 + 8 * c) =
      ([Kind.cnz, .cz, .cnc, .cc, .cpo, .cpe, .cp, .cm][c]?).map fun k => (k, [.ccc (.ofFin c)])) := by decide

/-- R103: the kinds without a selector, beside their bytes. -/
theorem test_kinds_without_selectors :
    ∀ e ∈ [(0x00#8, Kind.nop), (0x07, .rlc), (0x0F, .rrc), (0x17, .ral), (0x1F, .rar), (0x22, .shld), (0x27, .daa),
        (0x2A, .lhld), (0x2F, .cma), (0x32, .sta), (0x37, .stc), (0x3A, .lda), (0x3F, .cmc), (0x76, .hlt), (0xC3, .jmp),
        (0xC9, .ret), (0xCD, .call)] ++ [(0xD3#8, Kind.out), (0xDB, .inp), (0xE3, .xthl), (0xE9, .pchl), (0xEB, .xchg),
        (0xF3, .di), (0xF9, .sphl), (0xFB, .ei)],
      kindAndSelectors (describe e.1 0x00 0x00) = some (e.2, []) := by decide

/-- R108: the assembler form, numbers in decimal (log entry 7). -/
theorem test_asm_forms : Instr.asm (.mviA 0x05) = "MVI A,5" ∧ Instr.asm .movBM = "MOV B,M" := by decide

/-- R140: no sleep without a rate, nor with the rate 0. -/
theorem test_throttle :
    ({ spReset := spReset0, clockRate := none, proc := base } : Session).throttled = false ∧
    ({ spReset := spReset0, clockRate := some 0, proc := base } : Session).throttled = false ∧
    ({ spReset := spReset0, clockRate := some 2, proc := base } : Session).throttled = true := by decide

/-! Witnesses: for each statement with hypotheses, concrete states and operands that meet all of them together. -/

/-- A state whose instruction of two bytes ends exactly at 0xFFFF. -/
def top2 : State := { store 0x2000 [0x25] base with a := 0x10, b := 0x01, h := 0x20, pc := 0xFFFE }

/-- A state whose instruction of three bytes ends exactly at 0xFFFF. -/
def top3 : State := { top2 with pc := 0xFFFD }

theorem top2_fits : top2.Fits 2 := (by decide : 0xFFFE + 2 ≤ 0x10000)
theorem top2_fits_one : top2.Fits 1 := (by decide : 0xFFFE + 1 ≤ 0x10000)
theorem top3_fits : top3.Fits 3 := (by decide : 0xFFFD + 3 ≤ 0x10000)
theorem top3_fits_one : top3.Fits 1 := (by decide : 0xFFFD + 1 ≤ 0x10000)
theorem top2_canonical : top2.MemoryCanonical := rfl
theorem top3_canonical : top3.MemoryCanonical := rfl

theorem witness_DecodeInvertsEncode : (Instr.lxiB 0xFFFF).wf = true ∧ (Instr.illegal 0xFD).wf = true := by decide

theorem witness_FieldsSelectRegistersAndOperations :
    (∃ dst src : Operand, ¬ (dst = .m ∧ src = .m)) ∧ ∃ s : State, s.Fits 2 :=
  ⟨⟨.m, .reg .b, by decide⟩, top2, top2_fits⟩

theorem witness_StepRunsTheDecodedInstruction :
    ∃ (s : State) (i : Instr), s.stop = .running ∧ i.wf = true ∧
      decode (s.memRead s.pc) (s.memRead (s.pc + 1)) (s.memRead (s.pc + 2)) = i :=
  ⟨{ store 0xFFFF [0xC3, 0x34, 0x12] base with pc := 0xFFFF }, .jmp 0x1234, by decide⟩

theorem witness_StoppedStepChangesNothing : ∃ s : State, s.stop ≠ .running := ⟨{ base with stop := .halted }, by decide⟩

theorem witness_IllegalByteRaisesDecodeFault :
    (∃ op : Byte, op ∈ [0x08, 0x10, 0x18, 0x20, 0x28, 0x30, 0x38, 0xCB, 0xD9, 0xDD, 0xED, 0xFD]) ∧
    ∃ s : State, s.stop = .running ∧
      s.memRead s.pc ∈ [0x08, 0x10, 0x18, 0x20, 0x28, 0x30, 0x38, 0xCB, 0xD9, 0xDD, 0xED, 0xFD] :=
  ⟨⟨0x08, by decide⟩, { store 0xFFFF [0xFD] base with pc := 0xFFFF }, by decide⟩

theorem witness_InstructionPastTheTopDoesNotExecute :
    ∃ (i : Instr) (s : State), i.wf = true ∧ 0x10000 < s.pc.toNat + i.length :=
  ⟨.lxiB 0x1234, top2, by decide⟩

theorem witness_SequentialInstructionsAdvanceByTheirLength_below :
    ∃ (i : Instr) (s : State), i.yieldsSeq s.flags = true ∧ s.Fits i.length ∧ s.pc.toNat + i.length < 0x10000 :=
  ⟨.mviA 0x05, top3, by decide, (by decide : 0xFFFD + 2 ≤ 0x10000), by decide⟩

theorem witness_SequentialInstructionsAdvanceByTheirLength_at_the_top :
    ∃ (i : Instr) (s : State), i.yieldsSeq s.flags = true ∧ s.Fits i.length ∧ s.pc.toNat + i.length = 0x10000 :=
  ⟨.jz 0x1234, top3, by decide, top3_fits, by decide⟩

theorem witness_EveryStepHasANextState : ∃ i : Instr, i.wf = true := ⟨.illegal 0xFD, by decide⟩

theorem witness_StepKeepsMemoryCanonical : ∃ s t : State, s.MemoryCanonical ∧ step s = .next t :=
  ⟨top2, _, rfl, rfl⟩

theorem witness_StepKeepsStopRecordAccurate_running :
    ∃ s t : State, s.StopRecordAccurate ∧ s.stop = .running ∧ step s = .next t :=
  ⟨top2, _, trivial, rfl, rfl⟩

theorem witness_StepKeepsStopRecordAccurate_halted :
    ∃ s t : State, s.StopRecordAccurate ∧ s.stop = .halted ∧ step s = .next t :=
  ⟨{ store 0xFFFF [0x76] base with stop := .halted }, _, rfl, rfl, rfl⟩

theorem witness_StepKeepsStopRecordAccurate_end :
    ∃ s t : State, s.StopRecordAccurate ∧ s.stop = .endOfAddressSpace ∧ step s = .next t :=
  ⟨{ top3 with stop := .endOfAddressSpace }, _, (by decide : 0xFFFD ≤ 0xFFFD), rfl, rfl⟩

theorem witness_StepKeepsStopRecordAccurate_faulted :
    ∃ s t : State, s.StopRecordAccurate ∧ s.stop = .faulted .decodeFailure 0x08 0x0100 ∧ step s = .next t :=
  ⟨{ store 0x0100 [0x08] base with pc := 0x0100, stop := .faulted .decodeFailure 0x08 0x0100 }, _,
    ⟨rfl, by decide, by decide⟩, rfl, rfl⟩

theorem witness_StopOfAStepFollowsThePriority : ∃ s t : State, s.stop = .running ∧ step s = .next t :=
  ⟨top2, _, rfl, rfl⟩

/-- The four ends of a step, each at 0xFFFF. -/
theorem test_stop_priority_at_the_top :
    runs 0xFFFF [0x08] base (fun t => t.stop == .faulted .decodeFailure 0x08 0xFFFF) = true ∧
    runs 0xFFFF [0x76] base (fun t => t.stop == .halted) = true ∧
    runs 0xFFFF [0x00] base (fun t => t.stop == .endOfAddressSpace) = true ∧
    runs 0xFFFF [0xC9] base (fun t => t.stop == .running) = true := by decide

theorem witness_WriteThenRead : ∃ s : State, s.MemoryCanonical := ⟨top2, top2_canonical⟩

theorem witness_SelfOverwritingStoreRunsAsFetched :
    ∃ s : State, s.MemoryCanonical ∧ s.stop = .running ∧ s.pc.toNat + 3 < 0x10000 ∧ s.memRead s.pc = 0x32 ∧
      s.memRead (s.pc + 1) = s.pc.setWidth 8 ∧ s.memRead (s.pc + 2) = (s.pc >>> 8).setWidth 8 :=
  ⟨{ store 0xFFFC [0x32, 0xFC, 0xFF] base with pc := 0xFFFC }, rfl, by decide⟩

theorem witness_AddGivesSumAndFlags :
    ∃ (s : State) (d : Byte) (bytes : List Byte) (i : Instr) (b : Byte),
    (bytes, i, b) ∈ [
      ([0x80], Instr.addB, s.b), ([0x81], .addC, s.c), ([0x82], .addD, s.d),
      ([0x83], .addE, s.e), ([0x84], .addH, s.h), ([0x85], .addL, s.l),
      ([0x86], .addM, s.memRead s.hl), ([0x87], .addA, s.a), ([0xC6, d], .adi d, d)] ∧
    s.Fits bytes.length :=
  ⟨top2, 0x25, [0xC6, 0x25], .adi 0x25, 0x25, by simp, top2_fits⟩

theorem witness_AdcGivesSumWithCarryAndFlags :
    ∃ (s : State) (d : Byte) (bytes : List Byte) (i : Instr) (b : Byte),
    (bytes, i, b) ∈ [
      ([0x88], Instr.adcB, s.b), ([0x89], .adcC, s.c), ([0x8A], .adcD, s.d),
      ([0x8B], .adcE, s.e), ([0x8C], .adcH, s.h), ([0x8D], .adcL, s.l),
      ([0x8E], .adcM, s.memRead s.hl), ([0x8F], .adcA, s.a), ([0xCE, d], .aci d, d)] ∧
    s.Fits bytes.length :=
  ⟨top2, 0x25, [0xCE, 0x25], .aci 0x25, 0x25, by simp, top2_fits⟩

theorem witness_SubGivesDifferenceAndFlags :
    ∃ (s : State) (d : Byte) (bytes : List Byte) (i : Instr) (b : Byte),
    (bytes, i, b) ∈ [
      ([0x90], Instr.subB, s.b), ([0x91], .subC, s.c), ([0x92], .subD, s.d),
      ([0x93], .subE, s.e), ([0x94], .subH, s.h), ([0x95], .subL, s.l),
      ([0x96], .subM, s.memRead s.hl), ([0x97], .subA, s.a), ([0xD6, d], .sui d, d)] ∧
    s.Fits bytes.length :=
  ⟨top2, 0x25, [0xD6, 0x25], .sui 0x25, 0x25, by simp, top2_fits⟩

theorem witness_SbbGivesDifferenceWithBorrowAndFlags :
    ∃ (s : State) (d : Byte) (bytes : List Byte) (i : Instr) (b : Byte),
    (bytes, i, b) ∈ [
      ([0x98], Instr.sbbB, s.b), ([0x99], .sbbC, s.c), ([0x9A], .sbbD, s.d),
      ([0x9B], .sbbE, s.e), ([0x9C], .sbbH, s.h), ([0x9D], .sbbL, s.l),
      ([0x9E], .sbbM, s.memRead s.hl), ([0x9F], .sbbA, s.a), ([0xDE, d], .sbi d, d)] ∧
    s.Fits bytes.length :=
  ⟨top2, 0x25, [0xDE, 0x25], .sbi 0x25, 0x25, by simp, top2_fits⟩

theorem witness_CmpSetsFlagsOfTheDifferenceOnly :
    ∃ (s : State) (d : Byte) (bytes : List Byte) (i : Instr) (b : Byte),
    (bytes, i, b) ∈ [
      ([0xB8], Instr.cmpB, s.b), ([0xB9], .cmpC, s.c), ([0xBA], .cmpD, s.d),
      ([0xBB], .cmpE, s.e), ([0xBC], .cmpH, s.h), ([0xBD], .cmpL, s.l),
      ([0xBE], .cmpM, s.memRead s.hl), ([0xBF], .cmpA, s.a), ([0xFE, d], .cpi d, d)] ∧
    s.Fits bytes.length :=
  ⟨top2, 0x25, [0xFE, 0x25], .cpi 0x25, 0x25, by simp, top2_fits⟩

theorem witness_LogicGivesBitwiseResultAndClearsCarries :
    ∃ (s : State) (d : Byte) (bytes : List Byte) (i : Instr) (b : Byte) (f : Bool → Bool → Bool),
    (bytes, i, b, f) ∈ ([
      ([0xA0], Instr.anaB, s.b, fun p q => p && q), ([0xA1], .anaC, s.c, fun p q => p && q),
      ([0xA2], .anaD, s.d, fun p q => p && q), ([0xA3], .anaE, s.e, fun p q => p && q),
      ([0xA4], .anaH, s.h, fun p q => p && q), ([0xA5], .anaL, s.l, fun p q => p && q),
      ([0xA6], .anaM, s.memRead s.hl, fun p q => p && q), ([0xA7], .anaA, s.a, fun p q => p && q),
      ([0xE6, d], .ani d, d, fun p q => p && q), ([0xA8], .xraB, s.b, fun p q => p ^^ q),
      ([0xA9], .xraC, s.c, fun p q => p ^^ q), ([0xAA], .xraD, s.d, fun p q => p ^^ q),
      ([0xAB], .xraE, s.e, fun p q => p ^^ q), ([0xAC], .xraH, s.h, fun p q => p ^^ q),
      ([0xAD], .xraL, s.l, fun p q => p ^^ q), ([0xAE], .xraM, s.memRead s.hl, fun p q => p ^^ q),
      ([0xAF], .xraA, s.a, fun p q => p ^^ q), ([0xEE, d], .xri d, d, fun p q => p ^^ q),
      ([0xB0], .oraB, s.b, fun p q => p || q), ([0xB1], .oraC, s.c, fun p q => p || q),
      ([0xB2], .oraD, s.d, fun p q => p || q), ([0xB3], .oraE, s.e, fun p q => p || q),
      ([0xB4], .oraH, s.h, fun p q => p || q), ([0xB5], .oraL, s.l, fun p q => p || q),
      ([0xB6], .oraM, s.memRead s.hl, fun p q => p || q), ([0xB7], .oraA, s.a, fun p q => p || q),
      ([0xF6, d], .ori d, d, fun p q => p || q)] : List (List Byte × Instr × Byte × (Bool → Bool → Bool))) ∧
    s.Fits bytes.length :=
  ⟨top2, 0x25, [0xEE, 0x25], .xri 0x25, 0x25, fun p q => p ^^ q, by simp, top2_fits⟩

theorem witness_MovCopiesRegisterToRegister :
    ∃ (op : Byte) (i : Instr) (dst src : Reg),
    (op, i, dst, src) ∈ [
      (0x40, Instr.movBB, Reg.b, Reg.b), (0x41, .movBC, .b, .c), (0x42, .movBD, .b, .d), (0x43, .movBE, .b, .e),
      (0x44, .movBH, .b, .h), (0x45, .movBL, .b, .l), (0x47, .movBA, .b, .a), (0x48, .movCB, .c, .b),
      (0x49, .movCC, .c, .c), (0x4A, .movCD, .c, .d), (0x4B, .movCE, .c, .e), (0x4C, .movCH, .c, .h),
      (0x4D, .movCL, .c, .l), (0x4F, .movCA, .c, .a), (0x50, .movDB, .d, .b), (0x51, .movDC, .d, .c),
      (0x52, .movDD, .d, .d), (0x53, .movDE, .d, .e), (0x54, .movDH, .d, .h), (0x55, .movDL, .d, .l),
      (0x57, .movDA, .d, .a), (0x58, .movEB, .e, .b), (0x59, .movEC, .e, .c), (0x5A, .movED, .e, .d),
      (0x5B, .movEE, .e, .e), (0x5C, .movEH, .e, .h), (0x5D, .movEL, .e, .l), (0x5F, .movEA, .e, .a),
      (0x60, .movHB, .h, .b), (0x61, .movHC, .h, .c), (0x62, .movHD, .h, .d), (0x63, .movHE, .h, .e),
      (0x64, .movHH, .h, .h), (0x65, .movHL, .h, .l), (0x67, .movHA, .h, .a), (0x68, .movLB, .l, .b),
      (0x69, .movLC, .l, .c), (0x6A, .movLD, .l, .d), (0x6B, .movLE, .l, .e), (0x6C, .movLH, .l, .h),
      (0x6D, .movLL, .l, .l), (0x6F, .movLA, .l, .a), (0x78, .movAB, .a, .b), (0x79, .movAC, .a, .c),
      (0x7A, .movAD, .a, .d), (0x7B, .movAE, .a, .e), (0x7C, .movAH, .a, .h), (0x7D, .movAL, .a, .l),
      (0x7F, .movAA, .a, .a)] :=
  ⟨0x7C, .movAH, .a, .h, by decide⟩

theorem witness_LoadsReadTheAddressedByte :
    ∃ (s : State) (lo hi : Byte) (bytes : List Byte) (i : Instr) (dst : Reg) (addr : Word),
    (bytes, i, dst, addr) ∈ [
      ([0x46], Instr.movBM, Reg.b, s.hl), ([0x4E], .movCM, .c, s.hl), ([0x56], .movDM, .d, s.hl),
      ([0x5E], .movEM, .e, s.hl), ([0x66], .movHM, .h, s.hl), ([0x6E], .movLM, .l, s.hl),
      ([0x7E], .movAM, .a, s.hl), ([0x3A, lo, hi], .lda (hi ++ lo), .a, hi ++ lo), ([0x0A], .ldaxB, .a, s.b ++ s.c),
      ([0x1A], .ldaxD, .a, s.d ++ s.e)] ∧
    s.Fits bytes.length :=
  ⟨top3, 0x34, 0x12, [0x3A, 0x34, 0x12], .lda 0x1234, .a, 0x1234, by decide, top3_fits⟩

theorem witness_StoresWriteTheAddressedByte :
    ∃ (s : State) (lo hi : Byte) (bytes : List Byte) (i : Instr) (addr : Word) (v : Byte),
    (bytes, i, addr, v) ∈ [
      ([0x70], Instr.movMB, s.hl, s.b), ([0x71], .movMC, s.hl, s.c), ([0x72], .movMD, s.hl, s.d),
      ([0x73], .movME, s.hl, s.e), ([0x74], .movMH, s.hl, s.h), ([0x75], .movML, s.hl, s.l),
      ([0x77], .movMA, s.hl, s.a), ([0x36, lo], .mviM lo, s.hl, lo), ([0x32, lo, hi], .sta (hi ++ lo), hi ++ lo, s.a),
      ([0x02], .staxB, s.b ++ s.c, s.a), ([0x12], .staxD, s.d ++ s.e, s.a)] ∧
    s.Fits bytes.length ∧ s.MemoryCanonical :=
  ⟨top2, 0x99, 0x12, [0x36, 0x99], .mviM 0x99, 0x2000, 0x99, by decide, top2_fits, top2_canonical⟩

theorem witness_MviLoadsTheImmediateByte :
    ∃ (s : State) (d op : Byte) (i : Instr) (dst : Reg),
    (op, i, dst) ∈ [
      (0x06, Instr.mviB d, Reg.b), (0x0E, .mviC d, .c), (0x16, .mviD d, .d), (0x1E, .mviE d, .e),
      (0x26, .mviH d, .h), (0x2E, .mviL d, .l), (0x3E, .mviA d, .a)] ∧ s.Fits 2 :=
  ⟨top2, 0x25, 0x3E, .mviA 0x25, .a, by decide, top2_fits⟩

theorem witness_LxiLoadsTheImmediateWord :
    ∃ s : State, s.Fits 3 :=
  ⟨top3, top3_fits⟩

theorem witness_LhldAndShldMoveHlLittleEndian :
    ∃ s : State, s.Fits 3 ∧ s.MemoryCanonical :=
  ⟨top3, top3_fits, top3_canonical⟩

theorem witness_InrSetsFlagsButCarry :
    (∃ (op : Byte) (i : Instr) (r : Reg),
    (op, i, r) ∈ [
      (0x04, Instr.inrB, Reg.b), (0x0C, .inrC, .c), (0x14, .inrD, .d), (0x1C, .inrE, .e),
      (0x24, .inrH, .h), (0x2C, .inrL, .l), (0x3C, .inrA, .a)]) ∧
    ∃ s : State, s.MemoryCanonical :=
  ⟨⟨0x3C, .inrA, .a, by decide⟩, top2, top2_canonical⟩

theorem witness_DcrSetsFlagsButCarry :
    (∃ (op : Byte) (i : Instr) (r : Reg),
    (op, i, r) ∈ [
      (0x05, Instr.dcrB, Reg.b), (0x0D, .dcrC, .c), (0x15, .dcrD, .d), (0x1D, .dcrE, .e),
      (0x25, .dcrH, .h), (0x2D, .dcrL, .l), (0x3D, .dcrA, .a)]) ∧
    ∃ s : State, s.MemoryCanonical :=
  ⟨⟨0x3D, .dcrA, .a, by decide⟩, top2, top2_canonical⟩

theorem witness_DadAddsThePairToHl :
    ∃ (s : State) (op : Byte) (i : Instr) (x : Nat),
    (op, i, x) ∈ [(0x09, Instr.dadB, s.b.toNat * 256 + s.c.toNat), (0x19, .dadD, s.d.toNat * 256 + s.e.toNat),
      (0x29, .dadH, s.h.toNat * 256 + s.l.toNat), (0x39, .dadSP, s.sp.toNat)] :=
  ⟨top2, 0x39, .dadSP, 0xF000, by decide⟩

theorem witness_AddThenDaaIsDecimalAddition :
    ∃ (s : State) (x y : Nat), x < 100 ∧ y < 100 ∧ s.Fits 2 ∧ s.a = BitVec.ofNat 8 (x / 10 * 16 + x % 10) :=
  ⟨top2, 10, 99, by decide, by decide, top2_fits, by decide⟩

theorem witness_JumpsTakeTheirTargetWhenTheFlagSays_taken :
    ∃ (s : State) (lo hi : Byte) (bytes : List Byte) (i : Instr) (test : Bool) (target : Word),
    (bytes, i, test, target) ∈ [
      ([0xC3, lo, hi], Instr.jmp (hi ++ lo), true, hi ++ lo), ([0xE9], .pchl, true, s.h ++ s.l),
      ([0xC2, lo, hi], .jnz (hi ++ lo), !s.flags.z, hi ++ lo), ([0xCA, lo, hi], .jz (hi ++ lo), s.flags.z, hi ++ lo),
      ([0xD2, lo, hi], .jnc (hi ++ lo), !s.flags.cy, hi ++ lo), ([0xDA, lo, hi], .jc (hi ++ lo), s.flags.cy, hi ++ lo),
      ([0xE2, lo, hi], .jpo (hi ++ lo), !s.flags.p, hi ++ lo), ([0xEA, lo, hi], .jpe (hi ++ lo), s.flags.p, hi ++ lo),
      ([0xF2, lo, hi], .jp (hi ++ lo), !s.flags.s, hi ++ lo), ([0xFA, lo, hi], .jm (hi ++ lo), s.flags.s, hi ++ lo)] ∧
    s.Fits bytes.length ∧ test = true :=
  ⟨top3, 0x34, 0x12, [0xC2, 0x34, 0x12], .jnz 0x1234, true, 0x1234, by decide, top3_fits, rfl⟩

theorem witness_JumpsTakeTheirTargetWhenTheFlagSays_not_taken :
    ∃ (s : State) (lo hi : Byte) (bytes : List Byte) (i : Instr) (test : Bool) (target : Word),
    (bytes, i, test, target) ∈ [
      ([0xC3, lo, hi], Instr.jmp (hi ++ lo), true, hi ++ lo), ([0xE9], .pchl, true, s.h ++ s.l),
      ([0xC2, lo, hi], .jnz (hi ++ lo), !s.flags.z, hi ++ lo), ([0xCA, lo, hi], .jz (hi ++ lo), s.flags.z, hi ++ lo),
      ([0xD2, lo, hi], .jnc (hi ++ lo), !s.flags.cy, hi ++ lo), ([0xDA, lo, hi], .jc (hi ++ lo), s.flags.cy, hi ++ lo),
      ([0xE2, lo, hi], .jpo (hi ++ lo), !s.flags.p, hi ++ lo), ([0xEA, lo, hi], .jpe (hi ++ lo), s.flags.p, hi ++ lo),
      ([0xF2, lo, hi], .jp (hi ++ lo), !s.flags.s, hi ++ lo), ([0xFA, lo, hi], .jm (hi ++ lo), s.flags.s, hi ++ lo)] ∧
    s.Fits bytes.length ∧ test = false :=
  ⟨top3, 0x34, 0x12, [0xCA, 0x34, 0x12], .jz 0x1234, false, 0x1234, by decide, top3_fits, rfl⟩

theorem witness_CallsPushTheReturnAddress_taken :
    ∃ (s : State) (lo hi : Byte) (bytes : List Byte) (i : Instr) (test : Bool),
    (bytes, i, test) ∈ [
      ([0xCD, lo, hi], Instr.call (hi ++ lo), true), ([0xC4, lo, hi], .cnz (hi ++ lo), !s.flags.z),
      ([0xCC, lo, hi], .cz (hi ++ lo), s.flags.z), ([0xD4, lo, hi], .cnc (hi ++ lo), !s.flags.cy),
      ([0xDC, lo, hi], .cc (hi ++ lo), s.flags.cy), ([0xE4, lo, hi], .cpo (hi ++ lo), !s.flags.p),
      ([0xEC, lo, hi], .cpe (hi ++ lo), s.flags.p), ([0xF4, lo, hi], .cp (hi ++ lo), !s.flags.s),
      ([0xFC, lo, hi], .cm (hi ++ lo), s.flags.s)] ∧
    s.Fits bytes.length ∧ s.MemoryCanonical ∧ test = true :=
  ⟨top3, 0x34, 0x12, [0xC4, 0x34, 0x12], .cnz 0x1234, true, by decide, top3_fits, top3_canonical, rfl⟩

theorem witness_CallsPushTheReturnAddress_not_taken :
    ∃ (s : State) (lo hi : Byte) (bytes : List Byte) (i : Instr) (test : Bool),
    (bytes, i, test) ∈ [
      ([0xCD, lo, hi], Instr.call (hi ++ lo), true), ([0xC4, lo, hi], .cnz (hi ++ lo), !s.flags.z),
      ([0xCC, lo, hi], .cz (hi ++ lo), s.flags.z), ([0xD4, lo, hi], .cnc (hi ++ lo), !s.flags.cy),
      ([0xDC, lo, hi], .cc (hi ++ lo), s.flags.cy), ([0xE4, lo, hi], .cpo (hi ++ lo), !s.flags.p),
      ([0xEC, lo, hi], .cpe (hi ++ lo), s.flags.p), ([0xF4, lo, hi], .cp (hi ++ lo), !s.flags.s),
      ([0xFC, lo, hi], .cm (hi ++ lo), s.flags.s)] ∧
    s.Fits bytes.length ∧ s.MemoryCanonical ∧ test = false :=
  ⟨top3, 0x34, 0x12, [0xCC, 0x34, 0x12], .cz 0x1234, false, by decide, top3_fits, top3_canonical, rfl⟩

theorem witness_ReturnsPopTheTarget_taken :
    ∃ (s : State) (bytes : List Byte) (i : Instr) (test : Bool),
    (bytes, i, test) ∈ [
      ([0xC9], Instr.ret, true), ([0xC0], .rnz, !s.flags.z), ([0xC8], .rz, s.flags.z),
      ([0xD0], .rnc, !s.flags.cy), ([0xD8], .rc, s.flags.cy), ([0xE0], .rpo, !s.flags.p),
      ([0xE8], .rpe, s.flags.p), ([0xF0], .rp, !s.flags.s), ([0xF8], .rm, s.flags.s)] ∧
    test = true :=
  ⟨{ top3 with pc := 0xFFFF }, [0xC0], .rnz, true, by decide, rfl⟩

theorem witness_ReturnsPopTheTarget_not_taken :
    ∃ (s : State) (bytes : List Byte) (i : Instr) (test : Bool),
    (bytes, i, test) ∈ [
      ([0xC9], Instr.ret, true), ([0xC0], .rnz, !s.flags.z), ([0xC8], .rz, s.flags.z),
      ([0xD0], .rnc, !s.flags.cy), ([0xD8], .rc, s.flags.cy), ([0xE0], .rpo, !s.flags.p),
      ([0xE8], .rpe, s.flags.p), ([0xF0], .rp, !s.flags.s), ([0xF8], .rm, s.flags.s)] ∧
    test = false :=
  ⟨{ top3 with pc := 0xFFFF }, [0xC8], .rz, false, by decide, rfl⟩

theorem witness_RestartsCallEightTimesN :
    ∃ (s : State) (op : Byte) (i : Instr) (n : Nat),
    (op, i, n) ∈ [(0xC7, Instr.rst0, 0), (0xCF, .rst1, 1), (0xD7, .rst2, 2), (0xDF, .rst3, 3),
      (0xE7, .rst4, 4), (0xEF, .rst5, 5), (0xF7, .rst6, 6), (0xFF, .rst7, 7)] ∧ s.MemoryCanonical :=
  ⟨{ top2 with pc := 0xFFFF, sp := 0x0001 }, 0xFF, .rst7, 7, by decide, rfl⟩

theorem witness_PushStoresTheRegisterPair :
    ∃ (s : State) (op : Byte) (i : Instr) (v : Word),
    (op, i, v) ∈ [(0xC5, Instr.pushB, s.b ++ s.c), (0xD5, .pushD, s.d ++ s.e), (0xE5, .pushH, s.h ++ s.l)] ∧ s.MemoryCanonical :=
  ⟨{ top2 with sp := 0x0001 }, 0xE5, .pushH, 0x2000, by decide, rfl⟩

theorem witness_PswIsFlagsAboveA :
    ∃ s : State, s.MemoryCanonical :=
  ⟨{ top2 with sp := 0xFFFF }, rfl⟩

theorem witness_XthlAndSphlUseHl :
    ∃ s : State, s.MemoryCanonical :=
  ⟨{ top2 with sp := 0xFFFF }, rfl⟩

theorem witness_PushThenPopRestoresThePair :
    ∃ (s : State) (push pop : Instr),
    (push, pop) ∈ [(Instr.pushB, Instr.popB), (.pushD, .popD), (.pushH, .popH), (.pushPSW, .popPSW)] ∧ s.MemoryCanonical :=
  ⟨{ top2 with sp := 0x0001 }, .pushPSW, .popPSW, by decide, rfl⟩

theorem witness_CallThenReturnComesBack :
    ∃ s : State, s.MemoryCanonical ∧ s.Fits 3 :=
  ⟨top3, top3_canonical, top3_fits⟩

theorem witness_HltOutAndIn :
    ∃ s : State, s.Fits 2 :=
  ⟨top2, top2_fits⟩

theorem witness_OnlyTheTableWritesFlags :
    (∃ (i : Instr) (s t : State), exec i s = .next t ∧ i.writesSzap = false) ∧
    ∃ (i : Instr) (s t : State), exec i s = .next t ∧ i.writesCarry = false :=
  ⟨⟨.dadSP, top2, _, rfl, rfl⟩, .inrA, top2, _, rfl, rfl⟩

theorem witness_OnlyTheListedInstructionsWriteTheRest :
    ∃ (i : Instr) (s t : State), exec i s = .next t ∧ Reg.b ∉ i.regsWritten ∧ i.writesSp = false ∧
      i.writesMemory = false ∧ i ≠ .ei ∧ i ≠ .di ∧ (∀ p, i ≠ .outP8 p) ∧ ∀ p, i ≠ .inP8 p :=
  ⟨.xchg, top2, _, rfl, by decide, rfl, rfl, by decide, by decide, by simp, by simp⟩

theorem witness_InteAndLatchDoNotInfluenceExecution :
    ∃ s1 s2 t1 t2 : State, s1.HidingInteAndLatch = s2.HidingInteAndLatch ∧ s1 ≠ s2 ∧
      step s1 = .next t1 ∧ step s2 = .next t2 :=
  ⟨top2, { top2 with inte := true, outLatch := 0x5A }, _, _, rfl, by decide, rfl, rfl⟩

theorem witness_ConstructionPlacesTheImage_fits : ∃ image : List Byte, image.length = 65536 :=
  ⟨List.replicate 65536 0x76, List.length_replicate⟩

theorem witness_ConstructionPlacesTheImage_too_long : ∃ image : List Byte, image.length = 65537 :=
  ⟨List.replicate 65537 0x76, List.length_replicate⟩

theorem witness_PeekFollowsTheSequentialLayout_legal :
    ∃ (s : State) (k n : Nat) (a : Word) (d : Decoded) (e : Descriptor), 0 < k ∧ (peek k s)[n]? = some (a, d) ∧
      d.isIllegal = false ∧ n + 1 < k ∧ d = .descriptor e :=
  ⟨top3, 2, 0, 0xFFFD, describeAt top3 0xFFFD, ⟨0x00, 0x00, 0x00, .nop, .implied, []⟩, by decide, rfl, by decide,
    by decide, by decide⟩

theorem witness_PeekFollowsTheSequentialLayout_illegal :
    ∃ (s : State) (k n : Nat) (a : Word) (d : Decoded), (peek k s)[n]? = some (a, d) ∧ d.isIllegal = true :=
  ⟨store 0xFFFD [0x08] top3, 1, 0, 0xFFFD, .illegal 0x08, by decide, rfl⟩

theorem witness_HostOperationsTouchOnlyTheirPart : ∃ x : Session, x.proc.MemoryCanonical :=
  ⟨{ spReset := spReset0, clockRate := none, proc := top2 }, top2_canonical⟩

end Sys2Proof.Tests
end

section
/-! PROOFS. The arithmetic and logical group (`41_arith_logic.md`): ADD, SUB and CMP with their nine operand forms. -/

namespace Sys2Proof.Machine

/-- The instruction of the field pattern `10ooosss` (R95, R96). -/
def aluInstr (op : AluOp) (src : Operand) : Instr := decode (field3 0b10 op.code src.code) 0x00 0x00

/-- The instruction of the field pattern `11ooo110` with the operand byte `d` (R96). -/
def aluImmInstr (op : AluOp) (d : Byte) : Instr := decode (field3 0b11 op.code 0b110) d 0x00

/-- The bytes, the instruction and the operand byte of each of the nine forms of an operation, its bytes
built from the field patterns. At each `op` it computes to the table that the statement about `op` writes out. -/
def aluForms (op : AluOp) (s : State) (d : Byte) : List (List Byte × Instr × Byte) :=
  [.reg .b, .reg .c, .reg .d, .reg .e, .reg .h, .reg .l, .m, .reg .a].map
    (fun src => ([field3 0b10 op.code src.code], aluInstr op src, s.operand src)) ++
  [([field3 0b11 op.code 0b110, d], aluImmInstr op d, d)]

/-- The operand bytes do not enter the decoding of `10ooosss`. -/
theorem decode_alu (op : AluOp) (src : Operand) (b1 b2 : Byte) :
    decode (field3 0b10 op.code src.code) b1 b2 = aluInstr op src := by
  cases src with
  | reg r => cases op <;> cases r <;> rfl
  | m => cases op <;> rfl

/-- The third byte does not enter the decoding of `11ooo110`. -/
theorem decode_aluImm (op : AluOp) (d b2 : Byte) :
    decode (field3 0b11 op.code 0b110) d b2 = aluImmInstr op d := by
  cases op <;> rfl

theorem shapeOf_aluInstr (op : AluOp) (src : Operand) : shapeOf (aluInstr op src) = .alu op src := by
  cases src with
  | reg r => cases op <;> cases r <;> rfl
  | m => cases op <;> rfl

theorem shapeOf_aluImmInstr (op : AluOp) (d : Byte) : shapeOf (aluImmInstr op d) = .aluImm op d := by
  cases op <;> rfl

/-- Each form is encoded by its bytes, and where it fits it runs the common operation on its operand byte. -/
theorem encodes_and_exec_of_mem_aluForms {op : AluOp} {s : State} {d b : Byte} {bytes : List Byte} {i : Instr}
    (h : (bytes, i, b) ∈ aluForms op s d) (hf : s.Fits bytes.length) :
    Encodes bytes i ∧ ∃ p q, exec i s = .next { aluOn op b s with pc := p, stop := q } := by
  rw [aluForms, List.mem_append, List.mem_map, List.mem_singleton] at h
  rcases h with ⟨src, -, h⟩ | h
  · obtain ⟨rfl, rfl, rfl⟩ := h
    exact ⟨encodes_one.mpr (decode_alu op src), exec_of_shape (shapeOf_aluInstr op src) nofun hf rfl⟩
  · obtain ⟨rfl, rfl, rfl⟩ := h
    exact ⟨encodes_two.mpr (decode_aluImm op d), exec_of_shape (shapeOf_aluImmInstr op d) nofun hf rfl⟩

/-- Without a borrow-in the result of a subtraction is the difference of the bytes. -/
theorem subResult_false (a b : Byte) : subResult a b false = a - b := by
  obtain ⟨hdiff, -⟩ := sub_result_flags a b false Flags.reset
  apply BitVec.eq_of_toNat_eq
  rw [Bool.toNat_false] at hdiff
  rw [BitVec.toNat_sub]
  omega

/-- Settles O19: each form runs `aluOn .add`, whose result and flags are those of `add_result_flags`. -/
theorem addGivesSumAndFlags : Obligations.AddGivesSumAndFlags := by
  intro s d bytes i b h hf
  obtain ⟨henc, p, q, hexec⟩ := encodes_and_exec_of_mem_aluForms (op := .add) h hf
  obtain ⟨hsum, hzsp, hcy, hac⟩ := add_result_flags s.a b false s.flags
  exact ⟨henc, _, hexec, rfl, hsum, hzsp, hcy, hac⟩

/-- Settles O21: each form runs `aluOn .sub`, whose result and flags are those of `sub_result_flags`. -/
theorem subGivesDifferenceAndFlags : Obligations.SubGivesDifferenceAndFlags := by
  intro s d bytes i b h hf
  obtain ⟨henc, p, q, hexec⟩ := encodes_and_exec_of_mem_aluForms (op := .sub) h hf
  obtain ⟨hdiff, hzsp, hcy, hac⟩ := sub_result_flags s.a b false s.flags
  rw [Bool.toNat_false, Nat.cast_zero, sub_zero] at hdiff
  exact ⟨henc, _, hexec, rfl, hdiff, hzsp, hcy, hac⟩

/-- Settles O24: each form runs `aluOn .cmp`, which writes the flags of SUB only; the difference is 0 for equal bytes. -/
theorem cmpSetsFlagsOfTheDifferenceOnly : Obligations.CmpSetsFlagsOfTheDifferenceOnly := by
  intro s d bytes i b h hf
  obtain ⟨henc, p, q, hexec⟩ := encodes_and_exec_of_mem_aluForms (op := .cmp) h hf
  obtain ⟨-, hzsp, hcy, hac⟩ := sub_result_flags s.a b false s.flags
  rw [subResult_false] at hzsp
  exact ⟨henc, _, hexec, rfl, hzsp, hzsp.1.trans sub_eq_zero, hcy, hac⟩

end Sys2Proof.Machine
end

section
/-! PROOFS. The stack group (`43_stack.md`): XTHL and SPHL. -/

namespace Sys2Proof.Machine

/-- The low byte written at `a`, then the high byte at `a + 1`, store the word of the two (R64). -/
theorem memWrite_memWrite_storesWord {s : State} (hw : s.MemoryCanonical) (a : Word) (hi lo : Byte) :
    StoresWord s ((s.memWrite a lo).memWrite (a + 1) hi) a (hi ++ lo) := by
  intro x
  have hne : a ≠ a + 1 := by bv_omega
  have hlow : (hi ++ lo).setWidth 8 = lo := lowByte_joinBytes hi lo
  have hhigh : ((hi ++ lo) >>> 8).setWidth 8 = hi := highByte_joinBytes hi lo
  rw [hlow, hhigh]
  have hwrite_hi := memWrite_storesByte (State.memWrite_wf hw a lo) (a + 1) hi x
  have hwrite_lo := memWrite_storesByte hw a lo x
  rw [hwrite_hi, hwrite_lo]
  by_cases hx : x = a
  · rw [if_neg (hx.trans_ne hne), if_pos hx, if_pos hx]
  · rw [if_neg hx, if_neg hx]

/-- XTHL stores the old HL at SP: both writes are at the old SP, and the loads of H and L touch no memory (R306). -/
theorem exchangeTop_storesWord {s : State} (hw : s.MemoryCanonical) :
    StoresWord s (exchangeTop s) s.sp (s.h ++ s.l) :=
  memWrite_memWrite_storesWord hw s.sp s.h s.l

/-- Settles O48: the two one-byte forms run `exchangeTop` and `spFromHl`, with some PC and STOP. -/
theorem xthlAndSphlUseHl : Obligations.XthlAndSphlUseHl := by
  intro s hw
  constructor
  · obtain ⟨p, q, hexec⟩ := exec_of_shape (i := .xthl) rfl nofun s.fits_one rfl
    exact ⟨encodes_one.mpr fun _ _ => rfl, _, hexec, exchangeTop_storesWord hw, rfl⟩
  · obtain ⟨p, q, hexec⟩ := exec_of_shape (i := .sphl) rfl nofun s.fits_one rfl
    exact ⟨encodes_one.mpr fun _ _ => rfl, _, hexec, rfl⟩

end Sys2Proof.Machine
end

section
/-! PROOFS. The data transfer group (`44_data_transfer.md`): MOV between registers, and XCHG. -/

namespace Sys2Proof.Machine

/-- No register is PC or STOP (R30). -/
theorem State.reg_with_pc_stop (s : State) (p : Word) (q : Stop) (r : Reg) :
    ({ s with pc := p, stop := q } : State).reg r = s.reg r := by
  cases r <;> rfl

/-- A register write leaves every other register, and all but PC and STOP of the rest, as they were. -/
theorem onlyRegsChange_setReg (s : State) (r : Reg) (v : Byte) (p : Word) (q : Stop) :
    OnlyRegsChange [r] s { s.setReg r v with pc := p, stop := q } := by
  refine ⟨fun k hk => ?_, s.setReg_flags r v, s.setReg_sp r v, s.setReg_inte r v, s.setReg_outLatch r v,
    s.setReg_mem r v, s.setReg_inCount r v⟩
  rw [State.reg_with_pc_stop]
  exact s.reg_setReg_ne r k v (List.ne_of_not_mem_cons hk)

/-- The instruction of the field pattern `01dddsss` with two register codes (R94). -/
def movInstr (dst src : Reg) : Instr := decode (field3 0b01 dst.code src.code) 0x00 0x00

/-- The byte, the instruction and the two registers of each of the 49 register forms of MOV, the byte built from the
field pattern. It computes to the table that `Obligations.MovCopiesRegisterToRegister` writes out. -/
def movForms : List (Byte × Instr × Reg × Reg) :=
  [Reg.b, .c, .d, .e, .h, .l, .a].flatMap fun dst =>
    [Reg.b, .c, .d, .e, .h, .l, .a].map fun src => (field3 0b01 dst.code src.code, movInstr dst src, dst, src)

/-- The operand bytes do not enter the decoding of `01dddsss`. -/
theorem decode_mov (dst src : Reg) (b1 b2 : Byte) :
    decode (field3 0b01 dst.code src.code) b1 b2 = movInstr dst src := by
  cases dst <;> cases src <;> rfl

theorem shapeOf_movInstr (dst src : Reg) : shapeOf (movInstr dst src) = .mov (.reg dst) (.reg src) := by
  cases dst <;> cases src <;> rfl

/-- A row of the table is given by its two registers. -/
theorem eq_of_mem_movForms {op : Byte} {i : Instr} {dst src : Reg} (h : (op, i, dst, src) ∈ movForms) :
    op = field3 0b01 dst.code src.code ∧ i = movInstr dst src := by
  rw [movForms, List.mem_flatMap] at h
  obtain ⟨rowDst, -, h⟩ := h
  rw [List.mem_map] at h
  obtain ⟨rowSrc, -, h⟩ := h
  cases h
  exact ⟨rfl, rfl⟩

/-- Settles O25: each form is the pattern `01dddsss` of its two registers, and runs `State.setReg` on the first of
them with the old value of the second. -/
theorem movCopiesRegisterToRegister : Obligations.MovCopiesRegisterToRegister := by
  intro s op i dst src h
  obtain ⟨rfl, rfl⟩ := eq_of_mem_movForms h
  obtain ⟨p, q, hexec⟩ := exec_of_shape (shapeOf_movInstr dst src) nofun s.fits_one rfl
  refine ⟨encodes_one.mpr (decode_mov dst src), _, hexec, ?_, onlyRegsChange_setReg s dst (s.reg src) p q⟩
  rw [State.reg_with_pc_stop]
  exact s.reg_setReg_same dst (s.reg src)

/-- Settles O31: the one-byte form runs `exchangeDeHl`, with some PC and STOP. -/
theorem xchgSwapsDeAndHl : Obligations.XchgSwapsDeAndHl := by
  intro s
  obtain ⟨p, q, hexec⟩ := exec_of_shape (i := .xchg) rfl nofun s.fits_one rfl
  exact ⟨encodes_one.mpr fun _ _ => rfl, _, hexec, rfl⟩

end Sys2Proof.Machine
end

section
/-! PROOFS. The rotate, decimal and flag group (`46_rotate_decimal_flags.md`): STC and CMC. -/

namespace Sys2Proof.Machine

/-- Settles O39: the two one-byte forms run `setCarry` and `complementCarry`, with some PC and STOP. -/
theorem stcAndCmcWriteCarryOnly : Obligations.StcAndCmcWriteCarryOnly := by
  intro s
  constructor
  · obtain ⟨p, q, hexec⟩ := exec_of_shape (i := .stc) rfl nofun s.fits_one rfl
    exact ⟨encodes_one.mpr fun _ _ => rfl, _, hexec, rfl⟩
  · obtain ⟨p, q, hexec⟩ := exec_of_shape (i := .cmc) rfl nofun s.fits_one rfl
    exact ⟨encodes_one.mpr fun _ _ => rfl, _, hexec, rfl⟩

end Sys2Proof.Machine
end

section
/-! PROOFS. The decoder and the encoder (`30_encoding.md`). -/

namespace Sys2Proof

/-- What is decoded is an entry of the opcode map, so a function of it is the entry of the mapped map. -/
theorem apply_decode {β : Type} (f : Instr → β) (b0 b1 b2 : Byte) :
    f (decode b0 b1 b2) =
      (((opcodeMap b1 b2).map (List.map f)).getD (b0.toNat / 16) []).getD (b0.toNat % 16) (f (.illegal b0)) := by
  have hrow := List.getD_map (opcodeMap b1 b2) (List.map f) (d := []) (n := b0.toNat / 16)
  rw [List.map_nil] at hrow
  rw [hrow, List.getD_map, decode]

/-- The opcode of each entry of the map R103 is its place: row times 16 plus column. -/
theorem opcodeMap_opcodes (b1 b2 : Byte) :
    (opcodeMap b1 b2).map (List.map Instr.opcode) =
      (List.range 16).map fun r => (List.range 16).map fun c => BitVec.ofNat 8 (16 * r + c) := rfl

/-- Every entry of the map is well formed. -/
theorem opcodeMap_wf (b1 b2 : Byte) :
    (opcodeMap b1 b2).map (List.map Instr.wf) = List.replicate 16 (List.replicate 16 true) := rfl

/-- The operand bytes of every entry are as many of the two given ones as its length leaves. -/
theorem opcodeMap_operandBytes (b1 b2 : Byte) :
    (opcodeMap b1 b2).map (List.map Instr.operandBytes) =
      (opcodeMap b1 b2).map (List.map fun i => [b1, b2].take (i.length - 1)) := by
  simp only [opcodeMap, List.map_cons, List.map_nil, Instr.operandBytes, Machine.lowByte_joinBytes,
    Machine.highByte_joinBytes]
  rfl

/-- What is decoded from `b0` has the opcode byte `b0`. -/
@[simp] theorem opcode_decode (b0 b1 b2 : Byte) : (decode b0 b1 b2).opcode = b0 := by
  have hlt := b0.isLt
  have hrow : b0.toNat / 16 < 16 := by omega
  have hcol : b0.toNat % 16 < 16 := by omega
  rw [apply_decode Instr.opcode, opcodeMap_opcodes]
  simp only [List.getD_eq_getElem?_getD, List.getElem?_map, List.getElem?_range, hrow, hcol, Option.map_some,
    Option.getD_some, Nat.div_add_mod, BitVec.ofNat_toNat, BitVec.setWidth_eq]

theorem decode_wf (b0 b1 b2 : Byte) : (decode b0 b1 b2).wf = true := by
  have hlt := b0.isLt
  have hrow : b0.toNat / 16 < 16 := by omega
  have hcol : b0.toNat % 16 < 16 := by omega
  rw [apply_decode Instr.wf, opcodeMap_wf]
  simp only [List.getD_eq_getElem?_getD, List.getElem?_replicate, hrow, hcol, if_true, Option.getD_some]

theorem operandBytes_decode (b0 b1 b2 : Byte) :
    (decode b0 b1 b2).operandBytes = [b1, b2].take ((decode b0 b1 b2).length - 1) := by
  rw [apply_decode Instr.operandBytes, opcodeMap_operandBytes]
  exact (apply_decode (fun i => [b1, b2].take (i.length - 1)) b0 b1 b2).symm

theorem encode_decode (b0 b1 b2 : Byte) :
    encode (decode b0 b1 b2) = [b0, b1, b2].take (decode b0 b1 b2).length := by
  rw [encode, opcode_decode, operandBytes_decode, ← List.take_succ_cons,
    Nat.sub_add_cancel (decode b0 b1 b2).length_bounds.1]

theorem exists_joinBytes (v : Word) : ∃ hi lo, v = joinBytes hi lo :=
  ⟨highByte v, lowByte v, (Machine.joinBytes_high_low v).symm⟩

theorem encodes_encode {i : Instr} (h : i.wf = true) : Machine.Encodes (encode i) i := by
  intro rest
  rw [encode, List.cons_append, decodeBytes_cons]
  cases i
  case illegal op => exact decode_illegal (List.contains_iff_mem.mp h) _ _
  case lxiB v | lxiD v | lxiH v | lxiSP v | shld v | lhld v | sta v | lda v | jmp v | call v | jnz v | jz v
      | jnc v | jc v | jpo v | jpe v | jp v | jm v | cnz v | cz v | cnc v | cc v | cpo v | cpe v | cp v | cm v =>
    obtain ⟨hi, lo, rfl⟩ := exists_joinBytes v
    rw [Instr.opcode, Instr.operandBytes, Machine.lowByte_joinBytes, Machine.highByte_joinBytes]
    rfl
  all_goals
    rw [Instr.opcode]
    rfl

end Sys2Proof

namespace Sys2Proof.Machine

/-- The bytes fetched, cut to the length of the instruction, encode it. -/
theorem encodes_take_decode (b0 b1 b2 : Byte) :
    Encodes ([b0, b1, b2].take (decode b0 b1 b2).length) (decode b0 b1 b2) :=
  encode_decode b0 b1 b2 ▸ encodes_encode (decode_wf b0 b1 b2)

/-- Only the twelve illegal bytes decode to ILLEGAL, and to the ILLEGAL of their own byte. -/
theorem decode_eq_illegal {b0 b1 b2 op : Byte} (h : decode b0 b1 b2 = .illegal op) : op = b0 ∧ b0 ∈ illegalBytes := by
  have hop : op = b0 := (congrArg Instr.opcode h).symm.trans (opcode_decode b0 b1 b2)
  have hwf := decode_wf b0 b1 b2
  rw [h, hop] at hwf
  exact ⟨hop, List.contains_iff_mem.mp hwf⟩

theorem decode_eq_hlt {b0 b1 b2 : Byte} : decode b0 b1 b2 = .hlt ↔ b0 = 0x76 := by
  constructor
  · intro h
    rw [← opcode_decode b0 b1 b2, h]
    rfl
  · rintro rfl
    rfl

/-- Settles O1: each word decodes to its instruction, whatever the bytes past its length. -/
theorem writtenOutWordsDecode : Obligations.WrittenOutWordsDecode :=
  ⟨encodes_one.mpr fun _ _ => rfl, encodes_three.mpr rfl, encodes_one.mpr fun _ _ => rfl,
    encodes_one.mpr fun _ _ => rfl, encodes_one.mpr fun _ _ => rfl, encodes_two.mpr fun _ => rfl,
    encodes_three.mpr rfl, encodes_one.mpr fun _ _ => rfl, encodes_one.mpr fun _ _ => rfl,
    encodes_one.mpr fun _ _ => rfl, encodes_one.mpr fun _ _ => rfl, encodes_two.mpr fun _ => rfl,
    encodes_one.mpr fun _ _ => rfl⟩

/-- Settles O2, instruction by instruction: the pattern of its opcode byte is its place in the map, and a word operand
is read back from its two bytes. -/
theorem decodeInvertsEncode : Obligations.DecodeInvertsEncode :=
  fun _ h => encodes_encode h

/-- Settles O3, from what the opcode map holds at each place: the opcode byte and the operand bytes. -/
theorem encodeInvertsDecode : Obligations.EncodeInvertsDecode :=
  fun b0 b1 b2 => ⟨decode_wf b0 b1 b2, encode_decode b0 b1 b2⟩

/-- Settles O6: an illegal byte decodes to itself, and the opcode byte of what is decoded is the byte decoded. -/
theorem illegalBytesAreExactlyTheTwelve : Obligations.IllegalBytesAreExactlyTheTwelve := by
  intro b0 b1 b2
  refine ⟨⟨?_, fun h => ⟨b0, decode_illegal h b1 b2⟩⟩, fun op h => (decode_eq_illegal h).1⟩
  rintro ⟨op, h⟩
  exact (decode_eq_illegal h).2

/-! What the fields of an opcode byte select (R92): the shape of each pattern. -/

theorem shapeOf_decode_mov {dst src : Operand} (h : ¬ (dst = .m ∧ src = .m)) (x y : Byte) :
    shapeOf (decode (field3 0b01 dst.code src.code) x y) = .mov dst src := by
  cases dst with
  | reg q =>
    cases src with
    | reg r => cases q <;> cases r <;> rfl
    | m => cases q <;> rfl
  | m =>
    cases src with
    | reg r => cases r <;> rfl
    | m => exact absurd ⟨rfl, rfl⟩ h

theorem shapeOf_decode_alu (op : AluOp) (src : Operand) (x y : Byte) :
    shapeOf (decode (field3 0b10 op.code src.code) x y) = .alu op src := by
  rw [decode_alu, shapeOf_aluInstr]

theorem shapeOf_decode_aluImm (op : AluOp) (x y : Byte) :
    shapeOf (decode (field3 0b11 op.code 0b110) x y) = .aluImm op x := by
  rw [decode_aluImm, shapeOf_aluImmInstr]

theorem shapeOf_decode_inr (o : Operand) (x y : Byte) :
    shapeOf (decode (field3 0b00 o.code 0b100) x y) = .inr o := by
  cases o with
  | reg r => cases r <;> rfl
  | m => rfl

theorem shapeOf_decode_dcr (o : Operand) (x y : Byte) :
    shapeOf (decode (field3 0b00 o.code 0b101) x y) = .dcr o := by
  cases o with
  | reg r => cases r <;> rfl
  | m => rfl

theorem shapeOf_decode_mvi (o : Operand) (x y : Byte) :
    shapeOf (decode (field3 0b00 o.code 0b110) x y) = .mvi o x := by
  cases o with
  | reg r => cases r <;> rfl
  | m => rfl

theorem shapeOf_decode_lxi (p : Pair) (x y : Byte) :
    shapeOf (decode (field2 0b00 p.code 0b0001) x y) = .lxi p (joinBytes y x) := by
  cases p <;> rfl

theorem shapeOf_decode_inx (p : Pair) (x y : Byte) : shapeOf (decode (field2 0b00 p.code 0b0011) x y) = .inx p := by
  cases p <;> rfl

theorem shapeOf_decode_dcx (p : Pair) (x y : Byte) : shapeOf (decode (field2 0b00 p.code 0b1011) x y) = .dcx p := by
  cases p <;> rfl

theorem shapeOf_decode_dad (p : Pair) (x y : Byte) : shapeOf (decode (field2 0b00 p.code 0b1001) x y) = .dad p := by
  cases p <;> rfl

theorem shapeOf_decode_push (p : StackPair) (x y : Byte) :
    shapeOf (decode (field2 0b11 p.code 0b0101) x y) = .push p := by
  cases p <;> rfl

theorem shapeOf_decode_pop (p : StackPair) (x y : Byte) :
    shapeOf (decode (field2 0b11 p.code 0b0001) x y) = .pop p := by
  cases p <;> rfl

theorem shapeOf_decode_jcc (test : Cond) (x y : Byte) :
    shapeOf (decode (field3 0b11 test.code 0b010) x y) = .jcc test (joinBytes y x) := by
  cases test <;> rfl

theorem shapeOf_decode_ccc (test : Cond) (x y : Byte) :
    shapeOf (decode (field3 0b11 test.code 0b100) x y) = .ccc test (joinBytes y x) := by
  cases test <;> rfl

theorem shapeOf_decode_rcc (test : Cond) (x y : Byte) :
    shapeOf (decode (field3 0b11 test.code 0b000) x y) = .rcc test := by
  cases test <;> rfl

theorem shapeOf_decode_rst (n : BitVec 3) (x y : Byte) :
    shapeOf (decode (field3 0b11 n 0b111) x y) = .rst (BitVec.ofNat 16 (8 * n.toNat)) := by
  obtain ⟨k, hk, rfl⟩ : ∃ k < 8, n = BitVec.ofNat 3 k := ⟨n.toNat, n.isLt, by simp⟩
  interval_cases k <;> rfl

/-- An instruction runs as its shape. -/
theorem exec_of_shapeOf {i : Instr} {x : Shape} (h : shapeOf i = x) (s : State) : exec i s = x.exec s :=
  h ▸ exec_eq_shape i s

/-- What holds of the rule's effects, whatever PC and STOP, holds of the state that the instruction answers. -/
theorem exists_exec_of_shape {i : Instr} {s : State} {x : Shape} {P : State → Prop} (hx : shapeOf i = x)
    (hn : ∀ op, x ≠ .illegal op) (hf : s.Fits x.length) (hP : ∀ p q, P { (x.body s).1 with pc := p, stop := q }) :
    ∃ t, exec i s = .next t ∧ P t := by
  obtain ⟨p, q, hexec⟩ := exec_of_shape hx hn hf rfl
  exact ⟨_, hexec, hP p q⟩

/-- An instruction of a shape with a rule, where it fits, answers a state that differs from the rule's effects in PC and
STOP only. -/
theorem exec_frame_of_shape {i : Instr} {s u : State} {x : Shape} (hx : shapeOf i = x) (hn : ∀ op, x ≠ .illegal op)
    (hf : s.Fits x.length) (hu : (x.body s).1 = u) :
    ∃ t, exec i s = .next t ∧ t = { u with pc := t.pc, stop := t.stop } := by
  obtain ⟨p, q, hexec⟩ := exec_of_shape hx hn hf hu
  exact ⟨_, hexec, rfl⟩

/-- Settles O4: each pattern has the shape of its fields' operands and operation. -/
theorem fieldsSelectRegistersAndOperations : Obligations.FieldsSelectRegistersAndOperations := by
  intro x y s
  refine ⟨fun dst src hne => ?_, fun op src => ?_, fun hf op => ?_⟩
  · exact exec_frame_of_shape (shapeOf_decode_mov hne x y) nofun s.fits_one rfl
  · exact exec_frame_of_shape (shapeOf_decode_alu op src x y) nofun s.fits_one rfl
  · exact exec_frame_of_shape (shapeOf_decode_aluImm op x y) nofun hf rfl

/-- Settles O5: each pattern has the shape of its field's operand, pair, condition or number. -/
theorem fieldsSelectPairsConditionsAndRestarts : Obligations.FieldsSelectPairsConditionsAndRestarts := by
  intro x y s
  refine ⟨fun o => ⟨?_, ?_, ?_⟩, fun p => ⟨?_, ?_, ?_, ?_⟩, fun p => ⟨?_, ?_⟩, fun test => ⟨?_, ?_, ?_⟩, fun n => ?_⟩
  · exact exec_of_shapeOf (shapeOf_decode_inr o x y) s
  · exact exec_of_shapeOf (shapeOf_decode_dcr o x y) s
  · exact exec_of_shapeOf (shapeOf_decode_mvi o x y) s
  · exact exec_of_shapeOf (shapeOf_decode_lxi p x y) s
  · exact exec_of_shapeOf (shapeOf_decode_inx p x y) s
  · exact exec_of_shapeOf (shapeOf_decode_dcx p x y) s
  · exact exec_of_shapeOf (shapeOf_decode_dad p x y) s
  · exact exec_of_shapeOf (shapeOf_decode_push p x y) s
  · exact exec_of_shapeOf (shapeOf_decode_pop p x y) s
  · exact exec_of_shapeOf (shapeOf_decode_jcc test x y) s
  · exact exec_of_shapeOf (shapeOf_decode_ccc test x y) s
  · exact exec_of_shapeOf (shapeOf_decode_rcc test x y) s
  · exact exec_of_shapeOf (shapeOf_decode_rst n x y) s

end Sys2Proof.Machine
end

section
/-! PROOFS. The step and the events it reports (`40_execution_cycle.md`, `60_exceptions.md`). -/

namespace Sys2Proof.Machine

/-! What a step answers. -/

theorem step_of_running {s : State} (h : s.stop = .running) : step s = exec (fetchInstr s) s := by
  simp only [step, isRunning, h, beq_self_eq_true]

theorem step_of_stopped {s : State} (h : s.stop ≠ .running) : step s = .next s := by
  simp only [step, isRunning, beq_false_of_ne h]

theorem step_cases {s t : State} (h : step s = .next t) :
    (s.stop ≠ .running ∧ t = s) ∨ (s.stop = .running ∧ exec (fetchInstr s) s = .next t) := by
  by_cases hs : s.stop = .running
  · exact .inr ⟨hs, step_of_running hs ▸ h⟩
  · exact .inl ⟨hs, (Host.Outcome.next.inj (step_of_stopped hs ▸ h)).symm⟩

theorem exec_illegal {op : Byte} (h : op ∈ illegalBytes) (s : State) :
    exec (.illegal op) s = .next (raiseDecodeFault op s) :=
  if_pos (List.contains_iff_mem.mpr h)

/-- A well-formed instruction answers a next state: the mismatch of R501 needs an ill-formed term. -/
theorem exec_next {i : Instr} (h : i.wf = true) (s : State) : ∃ t, exec i s = .next t := by
  by_cases hi : ∀ op, i ≠ .illegal op
  · rw [exec_eq_perform hi]
    exact perform_next ..
  · push Not at hi
    obtain ⟨op, rfl⟩ := hi
    exact ⟨_, exec_illegal (List.contains_iff_mem.mp h) s⟩

theorem step_next (s : State) : ∃ t, step s = .next t := by
  by_cases hs : s.stop = .running
  · exact step_of_running hs ▸ exec_next (decode_wf ..) s
  · exact ⟨s, step_of_stopped hs⟩

theorem fetchInstr_of_illegal {s : State} (h : s.memRead s.pc ∈ illegalBytes) :
    fetchInstr s = .illegal (s.memRead s.pc) :=
  decode_illegal h _ _

/-- Settles O7, by the definition of the step. -/
theorem stepRunsTheDecodedInstruction : Obligations.StepRunsTheDecodedInstruction := by
  intro s i hs _ hd
  rw [step_of_running hs, fetchInstr, hd]

/-- Settles O8, by the definition of the step. -/
theorem stoppedStepChangesNothing : Obligations.StoppedStepChangesNothing :=
  fun _ h => step_of_stopped h

/-- Settles O9: an illegal byte decodes to itself, and ILLEGAL raises the decode fault. -/
theorem illegalByteRaisesDecodeFault : Obligations.IllegalByteRaisesDecodeFault := by
  refine ⟨fun s op h => ⟨encodes_one.mpr (decode_illegal h), exec_illegal h s⟩, fun s hs h => ?_⟩
  rw [step_of_running hs, fetchInstr_of_illegal h]
  exact exec_illegal h s

/-- Settles O12. -/
theorem everyStepHasANextState : Obligations.EveryStepHasANextState :=
  ⟨step_next, fun _ s h => exec_next h s⟩

/-- Settles O10: ILLEGAL has one byte, which always fits, and every other instruction runs by `perform`. -/
theorem instructionPastTheTopDoesNotExecute : Obligations.InstructionPastTheTopDoesNotExecute := by
  intro i s _ hlen
  have hi : ∀ op, i ≠ .illegal op := by
    rintro op rfl
    exact absurd s.fits_one (not_le.mpr hlen)
  rw [exec_eq_perform hi]
  exact perform_of_not_fits hlen _

/-! The next-PC result of a rule (R135). -/

theorem whenCond_snd (test : Cond) (taken : State → State × NextPc) (s : State) :
    (whenCond test taken s).2 = if condHolds s.flags test then (taken s).2 else .seq := by
  unfold whenCond
  split <;> rfl

theorem whenCond_snd_eq_seq {test : Cond} {taken : State → State × NextPc} {s : State} (h : (taken s).2 ≠ .seq) :
    (whenCond test taken s).2 = .seq ↔ (!condHolds s.flags test) = true := by
  rw [whenCond_snd]
  cases condHolds s.flags test
  · exact iff_of_true rfl rfl
  · exact iff_of_false h nofun

/-- A rule answers `Seq` exactly when its shape yields it. -/
theorem Shape.body_snd_eq_seq {x : Shape} (hn : ∀ op, x ≠ .illegal op) (s : State) :
    (x.body s).2 = .seq ↔ x.yieldsSeq s.flags = true := by
  cases x
  case illegal op => exact absurd rfl (hn op)
  case jcc | ccc | rcc => exact whenCond_snd_eq_seq nofun
  case jmp | call | ret | rst | pchl | hlt => exact iff_of_false nofun nofun
  all_goals exact iff_of_true rfl rfl

/-- Only HLT answers `Halt`. -/
theorem Shape.body_snd_eq_halt {x : Shape} {s : State} (h : (x.body s).2 = .halt) : x = .hlt := by
  cases x
  case hlt => rfl
  case jcc | ccc | rcc =>
    replace h := (whenCond_snd ..).symm.trans h
    split at h <;> cases h
  all_goals cases h

theorem shapeOf_eq_illegal {i : Instr} {op : Byte} (h : shapeOf i = .illegal op) : i = .illegal op := by
  cases i
  case illegal => exact congrArg Instr.illegal (Shape.illegal.inj h)
  all_goals cases h

theorem shapeOf_eq_hlt {i : Instr} (h : shapeOf i = .hlt) : i = .hlt := by
  cases i
  case hlt => rfl
  all_goals cases h

/-! STOP after an instruction. -/

/-- What `finish` makes of PC and STOP, by the next-PC result. -/
theorem finish_cases (pc : Word) (len : Nat) (r : NextPc) (u : State) :
    (r = .seq ∧ pc.toNat + len < 0x10000 ∧ (finish pc len r u).stop = u.stop) ∨
    (r = .seq ∧ 0x10000 ≤ pc.toNat + len ∧ finish pc len r u = stopAtEnd u) ∨
    (∃ target, r = .target target ∧ (finish pc len r u).stop = u.stop) ∨
    (r = .halt ∧ finish pc len r u = { u with pc := pc + 1, stop := .halted }) := by
  cases r with
  | target target => exact .inr (.inr (.inl ⟨target, rfl, rfl⟩))
  | halt => exact .inr (.inr (.inr ⟨rfl, rfl⟩))
  | seq =>
    by_cases hl : pc.toNat + len < 0x10000
    · exact .inl ⟨rfl, hl, by rw [finish, Config.memorySize, if_pos hl]⟩
    · exact .inr (.inl ⟨rfl, not_lt.mp hl, by rw [finish, Config.memorySize, if_neg hl]⟩)

/-- The events of R507, each with what it leaves of PC and memory. -/
theorem exec_stop_cases {i : Instr} {s t : State} (h : exec i s = .next t) :
    (∃ op, i = .illegal op ∧ op ∈ illegalBytes ∧ t = raiseDecodeFault op s) ∨
    ((∀ op, i ≠ .illegal op) ∧ i ≠ .hlt ∧
      (0x10000 < s.pc.toNat + i.length ∨ s.pc.toNat + i.length = 0x10000 ∧ i.yieldsSeq s.flags = true) ∧
      t.pc = s.pc ∧ t.stop = .endOfAddressSpace) ∨
    (i = .hlt ∧ t = { s with pc := s.pc + 1, stop := .halted }) ∨
    ((∀ op, i ≠ .illegal op) ∧ i ≠ .hlt ∧ s.pc.toNat + i.length ≤ 0x10000 ∧
      (s.pc.toNat + i.length = 0x10000 → i.yieldsSeq s.flags = false) ∧ t.stop = s.stop) := by
  rcases exec_cases h with hill | ⟨hi, hlen, rfl⟩ | ⟨hi, hlen, rfl⟩
  · exact .inl hill
  · have hhlt : i ≠ .hlt := by
      rintro rfl
      exact absurd s.fits_one (not_le.mpr hlen)
    exact .inr (.inl ⟨hi, hhlt, .inl hlen, rfl, rfl⟩)
  have hseq := Shape.body_snd_eq_seq (fun op hx => hi op (shapeOf_eq_illegal hx)) s
  rw [yieldsSeq_shapeOf] at hseq
  have hhlt : ((shapeOf i).body s).2 ≠ .halt → i ≠ .hlt := by
    rintro hr rfl
    exact hr rfl
  obtain ⟨hpc, hstop⟩ := (shapeOf i).body_pc_stop s
  rcases finish_cases s.pc i.length ((shapeOf i).body s).2 ((shapeOf i).body s).1 with
    ⟨hr, hl, hst⟩ | ⟨hr, hl, hst⟩ | ⟨target, hr, hst⟩ | ⟨hr, hst⟩
  · exact .inr (.inr (.inr ⟨hi, hhlt (hr ▸ nofun), hlen, fun e => absurd hl (by omega), hst.trans hstop⟩))
  · rw [hst]
    exact .inr (.inl ⟨hi, hhlt (hr ▸ nofun), .inr ⟨by omega, hseq.mp hr⟩, hpc, rfl⟩)
  · have hno : i.yieldsSeq s.flags = false := by
      rw [Bool.eq_false_iff, ne_eq, ← hseq, hr]
      nofun
    exact .inr (.inr (.inr ⟨hi, hhlt (hr ▸ nofun), hlen, fun _ => hno, hst.trans hstop⟩))
  · obtain rfl := shapeOf_eq_hlt (Shape.body_snd_eq_halt hr)
    exact .inr (.inr (.inl ⟨rfl, hst⟩))

/-- An instruction of a shape whose rule yields `Seq`, where it fits, answers the rule's effects with PC advanced by
its length (R136, R137). -/
theorem exec_advances_of_shape {i : Instr} {s u : State} {x : Shape} (hx : shapeOf i = x)
    (hn : ∀ op, x ≠ .illegal op) (hf : s.Fits x.length) (hu : x.body s = (u, .seq)) :
    ∃ p q, exec i s = .next { u with pc := p, stop := q } ∧ AdvancesBy x.length s { u with pc := p, stop := q } := by
  obtain ⟨hpc, hstop⟩ := x.body_pc_stop s
  have hadv : AdvancesBy x.length s (finish s.pc x.length .seq u) :=
    finish_seq_advances (by rw [← hpc, hu]) (by rw [← hstop, hu])
  subst hx
  rw [length_shapeOf] at hf hadv
  rw [finish_frame] at hadv
  rw [exec_eq_perform (fun op h => hn op (by rw [h]; rfl)), perform_of_fits hf, hu, length_shapeOf]
  exact ⟨_, _, congrArg _ (finish_frame ..), hadv⟩

/-- Settles O11: the rule answers `Seq`, so PC advances by the length. -/
theorem sequentialInstructionsAdvanceByTheirLength : Obligations.SequentialInstructionsAdvanceByTheirLength := by
  intro i s hseq hf
  have hi : ∀ op, i ≠ .illegal op := by
    rintro op rfl
    cases hseq
  have hn : ∀ op, shapeOf i ≠ .illegal op := fun op hx => hi op (shapeOf_eq_illegal hx)
  have hr : ((shapeOf i).body s).2 = .seq := (Shape.body_snd_eq_seq hn s).mpr (yieldsSeq_shapeOf i s.flags ▸ hseq)
  obtain ⟨p, q, hexec, hadv⟩ := exec_advances_of_shape (x := shapeOf i) rfl hn
    (by rwa [length_shapeOf]) (Prod.ext rfl hr)
  rw [length_shapeOf] at hadv
  exact ⟨_, hexec, hadv⟩

/-- The instruction fetched is HLT exactly when the byte at PC is 0x76. -/
theorem fetchInstr_eq_hlt {s : State} : fetchInstr s = .hlt ↔ s.memRead s.pc = 0x76 := decode_eq_hlt

/-- The instruction fetched is ILLEGAL exactly when the byte at PC is illegal, and it names that byte. -/
theorem fetchInstr_eq_illegal {s : State} {op : Byte} :
    fetchInstr s = .illegal op ↔ op = s.memRead s.pc ∧ s.memRead s.pc ∈ illegalBytes :=
  ⟨decode_eq_illegal, fun ⟨hop, h⟩ => hop ▸ fetchInstr_of_illegal h⟩

/-- Settles O14, by the four things an instruction can leave in STOP. -/
theorem stepKeepsStopRecordAccurate : Obligations.StepKeepsStopRecordAccurate := by
  intro s t hs h
  rcases step_cases h with ⟨-, rfl⟩ | ⟨hrun, h⟩
  · exact hs
  have hlen := (fetchInstr s).length_bounds
  rcases exec_stop_cases h with ⟨op, hi, hop, rfl⟩ | ⟨-, -, hend, hpc, hst⟩ | ⟨hi, rfl⟩ | ⟨-, -, -, -, hst⟩
  · exact ⟨rfl, hop, (fetchInstr_eq_illegal.mp hi).1.symm⟩
  · rw [State.StopRecordAccurate, hst, hpc]
    show 0xFFFD ≤ s.pc.toNat
    omega
  · show s.memRead (s.pc + 1 - 1) = 0x76
    rw [add_sub_cancel_right]
    exact fetchInstr_eq_hlt.mp hi
  · rw [State.StopRecordAccurate, hst, hrun]
    trivial

/-- Settles O16: the four things an instruction can leave in STOP exclude each other, and each has its condition. -/
theorem stopOfAStepFollowsThePriority : Obligations.StopOfAStepFollowsThePriority := by
  intro s t hrun h
  rw [step_of_running hrun] at h
  have hlegal : (∀ op, fetchInstr s ≠ .illegal op) → s.memRead s.pc ∉ illegalBytes :=
    fun hi hmem => hi _ (fetchInstr_of_illegal hmem)
  rw [← fetchInstr_eq_hlt]
  rcases exec_stop_cases h with ⟨op, hi, hop, rfl⟩ | ⟨hi, hhlt, hend, -, hst⟩ | ⟨hi, rfl⟩ | ⟨hi, hhlt, hle, htop, hst⟩
  · obtain ⟨rfl, hmem⟩ := fetchInstr_eq_illegal.mp hi
    simp [hi, hmem]
  · simp [hst, hlegal hi, hhlt, hend]
  · have hmem : s.memRead s.pc ∉ illegalBytes := hlegal (by simp [hi])
    have hfits : ¬ 0x10000 < s.pc.toNat + Instr.hlt.length := not_lt.mpr s.fits_one
    have hno : Instr.hlt.yieldsSeq s.flags = false := rfl
    simp [hi, hmem, hfits, hno]
  · have hend : ¬ (0x10000 < s.pc.toNat + (fetchInstr s).length ∨
        s.pc.toNat + (fetchInstr s).length = 0x10000 ∧ (fetchInstr s).yieldsSeq s.flags = true) := by
      rintro (hlt | ⟨heq, hseq⟩)
      · exact absurd hle (not_le.mpr hlt)
      · rw [htop heq] at hseq
        cases hseq
    simp [hst, hrun, hlegal hi, hhlt, hend]

end Sys2Proof.Machine
end

section
/-! PROOFS. What every instruction keeps: the canonical form of memory, what INTE and the output latch cannot reach, and
the parts of the state that the lists of `10_state.md` and `20_memory.md` do not give it to write. -/

namespace Sys2Proof.Machine

/-! The canonical form of memory. -/

/-- A conditional rule has what the rule taken and the state itself have. -/
theorem whenCond_fst_of {P : State → Prop} (test : Cond) {taken : State → State × NextPc} {s : State}
    (htaken : P (taken s).1) (hs : P s) : P (whenCond test taken s).1 := by
  unfold whenCond
  split
  · exact htaken
  · exact hs

theorem Shape.body_memoryCanonical (x : Shape) {s : State} (h : s.MemoryCanonical) :
    (x.body s).1.MemoryCanonical := by
  cases x
  case alu op src => cases op <;> exact h
  case aluImm op d => cases op <;> exact h
  case mov dst src => exact State.setOperand_wf h dst _
  case mvi dst d => exact State.setOperand_wf h dst d
  case inr o => exact State.setOperand_wf h o _
  case dcr o => exact State.setOperand_wf h o _
  case lxi p v => cases p <;> exact h
  case inx p => cases p <;> exact h
  case dcx p => cases p <;> exact h
  case pop p => cases p <;> exact h
  case sta t => exact State.memWrite_wf h t s.a
  case stax p => exact State.memWrite_wf h (s.pair p) s.a
  case shld t => exact State.memWrite_wf (State.memWrite_wf h t s.l) (t + 1) s.h
  case xthl => exact State.memWrite_wf (State.memWrite_wf h s.sp s.l) (s.sp + 1) s.h
  case push p => exact push16_wf h _
  case call t => exact push16_wf h _
  case rst t => exact push16_wf h _
  case ccc test t => exact whenCond_fst_of test (push16_wf h _) h
  case jcc test t => exact whenCond_fst_of test h h
  case rcc test => exact whenCond_fst_of test h h
  all_goals exact h

theorem exec_memoryCanonical {i : Instr} {s t : State} (hw : s.MemoryCanonical) (h : exec i s = .next t) :
    t.MemoryCanonical := by
  rcases exec_cases h with ⟨op, -, -, rfl⟩ | ⟨-, -, rfl⟩ | ⟨-, -, rfl⟩
  · exact hw
  · exact hw
  · rw [State.MemoryCanonical, finish_mem]
    exact (shapeOf i).body_memoryCanonical hw

/-- Settles O13: no rule lists an address twice, out of order or with the default byte, and `finish` writes
no memory. -/
theorem stepKeepsMemoryCanonical : Obligations.StepKeepsMemoryCanonical := by
  intro s t hw h
  rcases step_cases h with ⟨-, rfl⟩ | ⟨-, h⟩
  · exact hw
  · exact exec_memoryCanonical hw h

/-! INTE and the output latch (R45, R46, R52). -/

theorem State.hiding_operand (s : State) (o : Operand) : s.HidingInteAndLatch.operand o = s.operand o := by
  cases o with
  | reg r => cases r <;> rfl
  | m => rfl

theorem State.hiding_setOperand (s : State) (o : Operand) (v : Byte) :
    s.HidingInteAndLatch.setOperand o v = (s.setOperand o v).HidingInteAndLatch := by
  cases o with
  | reg r => cases r <;> rfl
  | m => rfl

theorem State.hiding_setPair (s : State) (p : Pair) (v : Word) :
    s.HidingInteAndLatch.setPair p v = (s.setPair p v).HidingInteAndLatch := by
  cases p <;> rfl

theorem State.hiding_pair (s : State) (p : Pair) : s.HidingInteAndLatch.pair p = s.pair p := by
  cases p <;> rfl

theorem aluOn_hiding (op : AluOp) (b : Byte) (s : State) :
    aluOn op b s.HidingInteAndLatch = (aluOn op b s).HidingInteAndLatch := by
  cases op <;> rfl

theorem State.hiding_hiding (s : State) : s.HidingInteAndLatch.HidingInteAndLatch = s.HidingInteAndLatch := rfl

/-- The rules of INR and DCR: an operand and the flags are written, from the operand and the flags. -/
theorem stepOperand_hiding (o : Operand) (s : State) :
    (incOperand o s.HidingInteAndLatch).HidingInteAndLatch = (incOperand o s).HidingInteAndLatch ∧
    (decOperand o s.HidingInteAndLatch).HidingInteAndLatch = (decOperand o s).HidingInteAndLatch := by
  cases o with
  | reg r => cases r <;> exact ⟨rfl, rfl⟩
  | m => exact ⟨rfl, rfl⟩

/-- A condition looks at the flags, which are not blanked out. -/
theorem whenCond_hiding (test : Cond) {taken : State → State × NextPc} {s : State}
    (h : (taken s.HidingInteAndLatch).1.HidingInteAndLatch = (taken s).1.HidingInteAndLatch ∧
      (taken s.HidingInteAndLatch).2 = (taken s).2) :
    (whenCond test taken s.HidingInteAndLatch).1.HidingInteAndLatch = (whenCond test taken s).1.HidingInteAndLatch ∧
    (whenCond test taken s.HidingInteAndLatch).2 = (whenCond test taken s).2 := by
  have hflags : s.HidingInteAndLatch.flags = s.flags := rfl
  unfold whenCond
  rw [hflags]
  split
  · exact h
  · exact ⟨rfl, rfl⟩

/-- A rule does the same to the state with INTE and the latch blanked out. -/
theorem Shape.body_hiding (x : Shape) (s : State) :
    (x.body s.HidingInteAndLatch).1.HidingInteAndLatch = (x.body s).1.HidingInteAndLatch ∧
    (x.body s.HidingInteAndLatch).2 = (x.body s).2 := by
  cases x
  case alu | aluImm | mov | mvi | lxi | inx | dcx =>
    simp only [Shape.body, State.hiding_operand, State.hiding_pair, State.hiding_setOperand, State.hiding_setPair,
      aluOn_hiding, State.hiding_hiding, and_self]
  case inr o => exact ⟨(stepOperand_hiding o s).1, rfl⟩
  case dcr o => exact ⟨(stepOperand_hiding o s).2, rfl⟩
  case ldax p | stax p | dad p | pop p => cases p <;> exact ⟨rfl, rfl⟩
  case push p => cases p <;> exact ⟨rfl, rfl⟩
  case jcc test t => exact whenCond_hiding test ⟨rfl, rfl⟩
  case ccc test t => exact whenCond_hiding test ⟨rfl, rfl⟩
  case rcc test => exact whenCond_hiding test ⟨rfl, rfl⟩
  all_goals exact ⟨rfl, rfl⟩

theorem finish_hiding (pc : Word) (len : Nat) (r : NextPc) (u : State) :
    (finish pc len r u).HidingInteAndLatch = finish pc len r u.HidingInteAndLatch := by
  cases r with
  | target t => rfl
  | halt => rfl
  | seq =>
    simp only [finish]
    split <;> rfl

/-- With INTE and the latch blanked out an instruction answers the same, up to INTE and the latch. -/
theorem exec_hiding {i : Instr} {s t : State} (h : exec i s = .next t) :
    ∃ u, exec i s.HidingInteAndLatch = .next u ∧ u.HidingInteAndLatch = t.HidingInteAndLatch := by
  rcases exec_cases h with ⟨op, rfl, hop, rfl⟩ | ⟨hi, hlen, rfl⟩ | ⟨hi, hlen, rfl⟩
  · exact ⟨_, exec_illegal hop _, rfl⟩
  · exact ⟨_, (exec_eq_perform hi _).trans (perform_of_not_fits (s := s.HidingInteAndLatch) hlen _), rfl⟩
  · obtain ⟨hstate, hnext⟩ := (shapeOf i).body_hiding s
    refine ⟨_, (exec_eq_perform hi _).trans (perform_of_fits (s := s.HidingInteAndLatch) hlen _), ?_⟩
    rw [finish_hiding, finish_hiding, hstate, hnext]
    rfl

theorem step_hiding {s t : State} (h : step s = .next t) :
    ∃ u, step s.HidingInteAndLatch = .next u ∧ u.HidingInteAndLatch = t.HidingInteAndLatch := by
  rcases step_cases h with ⟨hs, rfl⟩ | ⟨hs, h⟩
  · exact ⟨_, step_of_stopped hs, rfl⟩
  · rw [step_of_running (s := s.HidingInteAndLatch) hs]
    exact exec_hiding h

/-- Settles O55: both steps are, up to INTE and the latch, the step of the one state with these blanked out. -/
theorem inteAndLatchDoNotInfluenceExecution : Obligations.InteAndLatchDoNotInfluenceExecution := by
  intro s1 s2 t1 t2 hs h1 h2
  obtain ⟨u1, hu1, ht1⟩ := step_hiding h1
  obtain ⟨u2, hu2, ht2⟩ := step_hiding h2
  rw [hs, hu2] at hu1
  rw [← ht1, ← ht2, Host.Outcome.next.inj hu1]

end Sys2Proof.Machine
end

section
/-! PROOFS. What an instruction may write: the lists of `10_state.md` and `20_memory.md`, seen through the shapes. -/

namespace Sys2Proof.Machine

/-- What a rule keeps, the instruction keeps, if PC and STOP have no part in it. -/
theorem exec_keeps {α : Type} {f : State → α} (hf : ∀ (u : State) p q, f { u with pc := p, stop := q } = f u)
    {i : Instr} {s t : State} (hbody : f ((shapeOf i).body s).1 = f s) (h : exec i s = .next t) : f t = f s := by
  rcases exec_cases h with ⟨op, -, -, rfl⟩ | ⟨-, -, rfl⟩ | ⟨-, -, rfl⟩
  · exact hf s s.pc _
  · exact hf s s.pc _
  · rw [finish_frame, hf, hbody]

/-! Flags (R42). -/

/-- `Instr.writesSzap` seen through `shapeOf`. -/
def Shape.writesSzap : Shape → Bool
  | .alu _ _ | .aluImm _ _ | .inr _ | .dcr _ | .daa | .pop .psw => true
  | _ => false

/-- `Instr.writesCarry` seen through `shapeOf`. -/
def Shape.writesCarry : Shape → Bool
  | .alu _ _ | .aluImm _ _ | .dad _ | .rlc | .rrc | .ral | .rar | .daa | .stc | .cmc | .pop .psw => true
  | _ => false

theorem writesSzap_shapeOf (i : Instr) : (shapeOf i).writesSzap = i.writesSzap := by
  cases i <;> rfl

theorem writesCarry_shapeOf (i : Instr) : (shapeOf i).writesCarry = i.writesCarry := by
  cases i <;> rfl

/-- The four flags S, Z, AC and P. -/
def Flags.szap (f : Flags) : Flags := { f with cy := false }

theorem Flags.szap_eq {f g : Flags} : f.szap = g.szap ↔ f.s = g.s ∧ f.z = g.z ∧ f.ac = g.ac ∧ f.p = g.p := by
  simp [Flags.szap]

/-- Rules write S, Z, AC and P, and CY, as the table lists them. -/
theorem Shape.body_flags (x : Shape) (s : State) :
    (x.writesSzap = false → (x.body s).1.flags.szap = s.flags.szap) ∧
    (x.writesCarry = false → (x.body s).1.flags.cy = s.flags.cy) := by
  have hsame {u : State} (h : u.flags = s.flags) :
      (x.writesSzap = false → u.flags.szap = s.flags.szap) ∧ (x.writesCarry = false → u.flags.cy = s.flags.cy) :=
    ⟨fun _ => h ▸ rfl, fun _ => h ▸ rfl⟩
  cases x
  case alu | aluImm | daa => exact ⟨nofun, nofun⟩
  case inr | dcr => exact ⟨nofun, fun _ => rfl⟩
  case dad | rlc | rrc | ral | rar | stc | cmc => exact ⟨fun _ => rfl, nofun⟩
  case pop p =>
    cases p with
    | psw => exact ⟨nofun, nofun⟩
    | bc | de | hl => exact hsame rfl
  case mov dst src => exact hsame (s.setOperand_flags dst _)
  case mvi dst d => exact hsame (s.setOperand_flags dst d)
  case lxi p v => exact hsame (s.setPair_flags p v)
  case inx p => exact hsame (s.setPair_flags p _)
  case dcx p => exact hsame (s.setPair_flags p _)
  case jcc test t => exact hsame (whenCond_fst_of (P := fun u => u.flags = s.flags) test rfl rfl)
  case ccc test t => exact hsame (whenCond_fst_of (P := fun u => u.flags = s.flags) test rfl rfl)
  case rcc test => exact hsame (whenCond_fst_of (P := fun u => u.flags = s.flags) test rfl rfl)
  all_goals exact hsame rfl

/-- Settles O53, by the flags that the rule of each shape writes. -/
theorem onlyTheTableWritesFlags : Obligations.OnlyTheTableWritesFlags := by
  intro i s t h
  obtain ⟨hszap, hcy⟩ := (shapeOf i).body_flags s
  rw [writesSzap_shapeOf] at hszap
  rw [writesCarry_shapeOf] at hcy
  refine ⟨fun hw => ?_, fun hw => ?_⟩
  · exact Flags.szap_eq.mp (exec_keeps (f := fun u => u.flags.szap) (fun _ _ _ => rfl) (hszap hw) h)
  · exact exec_keeps (f := fun u => u.flags.cy) (fun _ _ _ => rfl) (hcy hw) h

/-! Registers (R31). -/

/-- The register of an operand (R32); M is none. -/
def operandRegs : Operand → List Reg
  | .reg r => [r]
  | .m => []

/-- The two registers of a pair (R35); SP is none. -/
def pairRegs : Pair → List Reg
  | .bc => [.b, .c]
  | .de => [.d, .e]
  | .hl => [.h, .l]
  | .sp => []

/-- The registers of a pair in the PSW context (R36). -/
def stackPairRegs : StackPair → List Reg
  | .bc => [.b, .c]
  | .de => [.d, .e]
  | .hl => [.h, .l]
  | .psw => [.a]

/-- `Instr.regsWritten` seen through `shapeOf`. -/
def Shape.regsWritten : Shape → List Reg
  | .alu .cmp _ | .aluImm .cmp _ => []
  | .alu _ _ | .aluImm _ _ | .lda _ | .ldax _ | .rlc | .rrc | .ral | .rar | .daa | .cma | .inp _ => [.a]
  | .mov o _ | .mvi o _ | .inr o | .dcr o => operandRegs o
  | .lxi p _ | .inx p | .dcx p => pairRegs p
  | .pop p => stackPairRegs p
  | .dad _ | .lhld _ | .xthl => [.h, .l]
  | .xchg => [.d, .e, .h, .l]
  | _ => []

theorem regsWritten_shapeOf (i : Instr) : (shapeOf i).regsWritten = i.regsWritten := by
  cases i <;> rfl

theorem reg_setOperand {o : Operand} {r : Reg} (h : r ∉ operandRegs o) (s : State) (v : Byte) :
    (s.setOperand o v).reg r = s.reg r := by
  cases o with
  | reg q => exact s.reg_setReg_ne q r v (List.ne_of_not_mem_cons h)
  | m => exact s.reg_memWrite s.hl v r

theorem reg_setPair {p : Pair} {r : Reg} (h : r ∉ pairRegs p) (s : State) (v : Word) :
    (s.setPair p v).reg r = s.reg r := by
  cases p <;> cases r <;> first | rfl | exact absurd (by decide) h

theorem reg_setStackPair {p : StackPair} {r : Reg} (h : r ∉ stackPairRegs p) (s : State) (v : Word) :
    (s.setStackPair p v).reg r = s.reg r := by
  cases p <;> cases r <;> first | rfl | exact absurd (by decide) h

theorem State.reg_with_flags (s : State) (f : Flags) (r : Reg) : ({ s with flags := f } : State).reg r = s.reg r := by
  cases r <;> rfl

theorem reg_aluOn {op : AluOp} {b : Byte} {r : Reg} (h : r ∉ (Shape.aluImm op b).regsWritten) (s : State) :
    (aluOn op b s).reg r = s.reg r := by
  cases op
  case cmp => exact s.reg_with_flags _ r
  all_goals
    replace h : r ∉ [Reg.a] := h
    cases r <;> first | rfl | exact absurd (by decide) h

/-- A rule writes no register that is not listed for its shape. -/
theorem Shape.body_reg {x : Shape} {r : Reg} (h : r ∉ x.regsWritten) (s : State) : (x.body s).1.reg r = s.reg r := by
  cases x
  case alu op src => exact reg_aluOn (b := s.operand src) (by cases op <;> exact h) s
  case aluImm op d => exact reg_aluOn h s
  case mov dst src => exact reg_setOperand h s _
  case mvi dst d => exact reg_setOperand h s d
  case inr o => exact (State.reg_with_flags _ _ r).trans (reg_setOperand h s _)
  case dcr o => exact (State.reg_with_flags _ _ r).trans (reg_setOperand h s _)
  case lxi p v => exact reg_setPair h s v
  case inx p => exact reg_setPair h s _
  case dcx p => exact reg_setPair h s _
  case pop p => exact (reg_setStackPair h _ _).trans (s.reg_dropTop r)
  case jcc test t => exact whenCond_fst_of (P := fun u => u.reg r = s.reg r) test rfl rfl
  case ccc test t => exact whenCond_fst_of (P := fun u => u.reg r = s.reg r) test (s.reg_push16 _ r) rfl
  case rcc test => exact whenCond_fst_of (P := fun u => u.reg r = s.reg r) test (s.reg_dropTop r) rfl
  case lda | ldax | rlc | rrc | ral | rar | daa | cma | inp =>
    replace h : r ∉ [Reg.a] := h
    cases r <;> first | rfl | exact absurd (by decide) h
  case dad | lhld | xthl =>
    replace h : r ∉ [Reg.h, .l] := h
    cases r <;> first | rfl | exact absurd (by decide) h
  case xchg =>
    replace h : r ∉ [Reg.d, .e, .h, .l] := h
    cases r <;> first | rfl | exact absurd (by decide) h
  all_goals cases r <;> rfl

/-! SP (R38) and memory (R61). -/

/-- `Instr.writesSp` seen through `shapeOf`. -/
def Shape.writesSp : Shape → Bool
  | .lxi .sp _ | .inx .sp | .dcx .sp | .call _ | .ccc _ _ | .ret | .rcc _ | .rst _ | .push _ | .pop _ | .sphl => true
  | _ => false

/-- `Instr.writesMemory` seen through `shapeOf`. -/
def Shape.writesMemory : Shape → Bool
  | .mov .m _ | .mvi .m _ | .inr .m | .dcr .m | .sta _ | .shld _ | .stax _ | .call _ | .ccc _ _ | .rst _ | .push _
  | .xthl => true
  | _ => false

theorem writesSp_shapeOf (i : Instr) : (shapeOf i).writesSp = i.writesSp := by
  cases i <;> rfl

theorem writesMemory_shapeOf (i : Instr) : (shapeOf i).writesMemory = i.writesMemory := by
  cases i <;> rfl

theorem Shape.body_sp {x : Shape} (h : x.writesSp = false) (s : State) : (x.body s).1.sp = s.sp := by
  cases x
  case alu op src => cases op <;> rfl
  case aluImm op d => cases op <;> rfl
  case mov dst src => exact s.setOperand_sp dst _
  case mvi dst d => exact s.setOperand_sp dst d
  case inr o => exact s.setOperand_sp o _
  case dcr o => exact s.setOperand_sp o _
  case lxi p v =>
    cases p with
    | sp => cases h
    | bc | de | hl => rfl
  case inx p =>
    cases p with
    | sp => cases h
    | bc | de | hl => rfl
  case dcx p =>
    cases p with
    | sp => cases h
    | bc | de | hl => rfl
  case jcc test t => exact whenCond_fst_of (P := fun u => u.sp = s.sp) test rfl rfl
  case call | ccc | ret | rcc | rst | push | pop | sphl => cases h
  all_goals rfl

theorem Shape.body_mem {x : Shape} (h : x.writesMemory = false) (s : State) : (x.body s).1.mem = s.mem := by
  cases x
  case alu op src => cases op <;> rfl
  case aluImm op d => cases op <;> rfl
  case mov o src =>
    cases o with
    | reg r => exact s.setReg_mem r _
    | m => cases h
  case mvi o d =>
    cases o with
    | reg r => exact s.setReg_mem r d
    | m => cases h
  case inr o =>
    cases o with
    | reg r => exact s.setReg_mem r _
    | m => cases h
  case dcr o =>
    cases o with
    | reg r => exact s.setReg_mem r _
    | m => cases h
  case lxi p v => exact s.setPair_mem p v
  case inx p => exact s.setPair_mem p _
  case dcx p => exact s.setPair_mem p _
  case pop p => exact (dropTop s).setStackPair_mem p _
  case jcc test t => exact whenCond_fst_of (P := fun u => u.mem = s.mem) test rfl rfl
  case rcc test => exact whenCond_fst_of (P := fun u => u.mem = s.mem) test rfl rfl
  case sta | shld | stax | call | ccc | rst | push | xthl => cases h
  all_goals rfl

/-! INTE (R45), the latch (R46) and the count of IN steps. -/

/-- INTE, the latch and the count of IN steps are those of `s`. -/
def SameIo (s u : State) : Prop := u.inte = s.inte ∧ u.outLatch = s.outLatch ∧ u.inCount = s.inCount

/-- Everything that EI, DI, OUT and IN alone may write. -/
theorem Shape.body_io (x : Shape) (s : State) :
    (x ≠ .ei → x ≠ .di → (x.body s).1.inte = s.inte) ∧
    ((∀ p, x ≠ .out p) → (x.body s).1.outLatch = s.outLatch) ∧
    ((∀ p, x ≠ .inp p) → (x.body s).1.inCount = s.inCount) := by
  have hsame {u : State} (h : SameIo s u) :
      (x ≠ .ei → x ≠ .di → u.inte = s.inte) ∧ ((∀ p, x ≠ .out p) → u.outLatch = s.outLatch) ∧
      ((∀ p, x ≠ .inp p) → u.inCount = s.inCount) :=
    let ⟨hinte, hlatch, hcount⟩ := h
    ⟨fun _ _ => hinte, fun _ => hlatch, fun _ => hcount⟩
  cases x
  case ei => exact ⟨fun h => absurd rfl h, fun _ => rfl, fun _ => rfl⟩
  case di => exact ⟨fun _ h => absurd rfl h, fun _ => rfl, fun _ => rfl⟩
  case out p => exact ⟨fun _ _ => rfl, fun h => absurd rfl (h p), fun _ => rfl⟩
  case inp p => exact ⟨fun _ _ => rfl, fun _ => rfl, fun h => absurd rfl (h p)⟩
  case alu op src => cases op <;> exact hsame ⟨rfl, rfl, rfl⟩
  case aluImm op d => cases op <;> exact hsame ⟨rfl, rfl, rfl⟩
  case mov o src => exact hsame ⟨s.setOperand_inte o _, s.setOperand_outLatch o _, s.setOperand_inCount o _⟩
  case mvi o d => exact hsame ⟨s.setOperand_inte o _, s.setOperand_outLatch o _, s.setOperand_inCount o _⟩
  case inr o => exact hsame ⟨s.setOperand_inte o _, s.setOperand_outLatch o _, s.setOperand_inCount o _⟩
  case dcr o => exact hsame ⟨s.setOperand_inte o _, s.setOperand_outLatch o _, s.setOperand_inCount o _⟩
  case lxi p v => exact hsame ⟨s.setPair_inte p _, s.setPair_outLatch p _, s.setPair_inCount p _⟩
  case inx p => exact hsame ⟨s.setPair_inte p _, s.setPair_outLatch p _, s.setPair_inCount p _⟩
  case dcx p => exact hsame ⟨s.setPair_inte p _, s.setPair_outLatch p _, s.setPair_inCount p _⟩
  case pop p => cases p <;> exact hsame ⟨rfl, rfl, rfl⟩
  case jcc test t => exact hsame (whenCond_fst_of (P := SameIo s) test ⟨rfl, rfl, rfl⟩ ⟨rfl, rfl, rfl⟩)
  case ccc test t => exact hsame (whenCond_fst_of (P := SameIo s) test ⟨rfl, rfl, rfl⟩ ⟨rfl, rfl, rfl⟩)
  case rcc test => exact hsame (whenCond_fst_of (P := SameIo s) test ⟨rfl, rfl, rfl⟩ ⟨rfl, rfl, rfl⟩)
  all_goals exact hsame ⟨rfl, rfl, rfl⟩

theorem shapeOf_eq_ei {i : Instr} (h : shapeOf i = .ei) : i = .ei := by
  cases i
  case ei => rfl
  all_goals cases h

theorem shapeOf_eq_di {i : Instr} (h : shapeOf i = .di) : i = .di := by
  cases i
  case di => rfl
  all_goals cases h

theorem shapeOf_eq_out {i : Instr} {p : Byte} (h : shapeOf i = .out p) : i = .outP8 p := by
  cases i
  case outP8 => exact congrArg Instr.outP8 (Shape.out.inj h)
  all_goals cases h

theorem shapeOf_eq_inp {i : Instr} {p : Byte} (h : shapeOf i = .inp p) : i = .inP8 p := by
  cases i
  case inP8 => exact congrArg Instr.inP8 (Shape.inp.inj h)
  all_goals cases h

/-- Settles O54, by what the rule of each shape writes. -/
theorem onlyTheListedInstructionsWriteTheRest : Obligations.OnlyTheListedInstructionsWriteTheRest := by
  intro i s t h
  obtain ⟨hinte, hlatch, hcount⟩ := (shapeOf i).body_io s
  rw [← regsWritten_shapeOf, ← writesSp_shapeOf, ← writesMemory_shapeOf]
  refine ⟨fun r hr => ?_, fun hsp => ?_, fun hmem x => ?_, fun hei hdi => ?_, fun hout => ?_, fun hin => ?_⟩
  · exact exec_keeps (f := fun u => u.reg r) (fun u p q => u.reg_with_pc_stop p q r) (Shape.body_reg hr s) h
  · exact exec_keeps (f := State.sp) (fun _ _ _ => rfl) (Shape.body_sp hsp s) h
  · have hkept : t.mem = s.mem := exec_keeps (f := State.mem) (fun _ _ _ => rfl) (Shape.body_mem hmem s) h
    rw [State.memRead, State.memRead, hkept]
  · exact exec_keeps (f := State.inte) (fun _ _ _ => rfl)
      (hinte (fun hx => hei (shapeOf_eq_ei hx)) fun hx => hdi (shapeOf_eq_di hx)) h
  · exact exec_keeps (f := State.outLatch) (fun _ _ _ => rfl) (hlatch fun p hx => hout p (shapeOf_eq_out hx)) h
  · exact exec_keeps (f := State.inCount) (fun _ _ _ => rfl) (hcount fun p hx => hin p (shapeOf_eq_inp hx)) h

end Sys2Proof.Machine
end

section
/-! PROOFS. Memory (`20_memory.md`): reads and writes, and a store to its own opcode byte. -/

namespace Sys2Proof.Machine

theorem setWidth_eq_lowByte (v : Word) : v.setWidth 8 = lowByte v :=
  BitVec.eq_of_getLsbD_eq fun k hk => by simp [lowByte, hk]

theorem shiftRight_setWidth_eq_highByte (v : Word) : (v >>> 8).setWidth 8 = highByte v :=
  BitVec.eq_of_getLsbD_eq fun k hk => by simp [highByte, hk]

/-- Settles O17, by the laws of memory. -/
theorem writeThenRead : Obligations.WriteThenRead :=
  fun _ a x v hw => ⟨memWrite_storesByte hw a v x, rfl, rfl⟩

/-- Settles O18: the three bytes decode to STA of PC itself, and the write reaches the first of them only. -/
theorem selfOverwritingStoreRunsAsFetched : Obligations.SelfOverwritingStoreRunsAsFetched := by
  intro s hw hrun hlt h0 h1 h2
  have hfetch : fetchInstr s = .sta s.pc := by
    rw [fetchInstr, h0, h1, h2, setWidth_eq_lowByte, shiftRight_setWidth_eq_highByte]
    exact congrArg Instr.sta (joinBytes_high_low s.pc)
  obtain ⟨p, q, hexec, hadv, -⟩ := exec_advances_of_shape (i := .sta s.pc) rfl nofun (le_of_lt hlt) rfl
  obtain ⟨hp, hq⟩ := hadv hlt
  have hstore := memWrite_storesByte hw s.pc s.a
  refine ⟨_, (step_of_running hrun).trans (hfetch ▸ hexec), ?_, hq.trans hrun, hstore, ?_, ?_⟩
  · show p = s.pc + 3
    apply BitVec.eq_of_toNat_eq
    rw [BitVec.toNat_add_of_lt hlt]
    exact hp
  · obtain rfl : q = s.stop := hq
    rfl
  · show decode ((s.memWrite s.pc s.a).memRead s.pc) ((s.memWrite s.pc s.a).memRead (s.pc + 1))
      ((s.memWrite s.pc s.a).memRead (s.pc + 2)) = _
    rw [hstore, hstore, hstore, if_pos rfl, if_neg (by bv_omega), if_neg (by bv_omega), h1, h2]

end Sys2Proof.Machine
end

section
/-! PROOFS. Construction, reset and the host operations (`70_reset_and_hazards.md`, `40_execution_cycle.md`). -/

namespace Sys2Proof.Machine

/-- Settles O15, by the values of R50. -/
theorem resetMeetsTheInvariants : Obligations.ResetMeetsTheInvariants :=
  ⟨rfl, trivial, rfl, rfl, Config.spReset.property, fun r => by cases r <;> rfl⟩

theorem resetStop_eq (v : Stop) : resetStop v = if v = .halted then .running else v := by
  cases v <;> rfl

/-- Settles O56, by the values of R50 and `resetStop_eq`. -/
theorem resetRestoresTheDefaults : Obligations.ResetRestoresTheDefaults := by
  intro s spReset
  exact ⟨fun r => by cases r <;> rfl, rfl, rfl, rfl, rfl, rfl, rfl, resetStop_eq s.stop⟩

/-- Settles O57: the tabulated memory reads as the image over `MEM_INIT`, and it is canonical. -/
theorem constructionPlacesTheImage : Obligations.ConstructionPlacesTheImage := by
  intro spReset memInit image
  refine ⟨fun h => ⟨_, if_neg (not_lt.mpr h), fun x => ?_, ?_, rfl⟩, fun h => if_pos h⟩
  · exact Memory.read_tabulate _ Config.memorySize 0 x.toNat (Nat.zero_le _) (by simpa [Config.memorySize] using x.isLt)
  · exact Memory.wfFrom_tabulate _ Config.memorySize 0 (by rw [Nat.zero_add])

theorem Memory.tabulate_default {f : Nat → Byte} :
    ∀ (n lo : Nat), (∀ k, f (lo + k) = Config.memInitByte) → Memory.tabulate f lo n = []
  | 0, _, _ => rfl
  | n + 1, lo, h => by
    rw [Memory.tabulate, if_pos (show f lo = _ from h 0)]
    exact Memory.tabulate_default n (lo + 1) fun k => by rw [add_assoc, h]

/-- The memory of an image is the tabulated one, whose bytes beyond the image are the default. -/
theorem Memory.ofImage_eq_tabulate {f : Nat → Byte} : ∀ (image : List Byte) (lo n : Nat), image.length ≤ n →
    (∀ k, f (lo + k) = image.getD k Config.memInitByte) → Memory.ofImage lo image = Memory.tabulate f lo n
  | [], lo, n, _, h => (Memory.tabulate_default n lo fun k => (h k).trans rfl).symm
  | v :: rest, lo, n + 1, hlen, h => by
    have ih := Memory.ofImage_eq_tabulate (f := f) rest (lo + 1) n (Nat.le_of_succ_le_succ hlen)
      fun k => by rw [add_assoc, add_comm 1 k, h, List.getD_cons_succ]
    have hv : f lo = v := h 0
    rw [Memory.ofImage, Memory.tabulate, hv, ih]

/-- Settles O58: the two memories are equal lists. -/
theorem fastConstructionAgrees : Obligations.FastConstructionAgrees := by
  intro image
  refine ⟨?_, rfl⟩
  unfold construct constructWith
  split
  · rfl
  · next h =>
    rw [Memory.ofImage_eq_tabulate (f := imageByte (fun _ => Config.memInitByte) image) image 0 Config.memorySize
      (not_lt.mp h) fun k => by rw [Nat.zero_add, imageByte]]
    rfl

/-! Peek (R156). -/

theorem describe_isIllegal_iff (b0 b1 b2 : Byte) : (describe b0 b1 b2).isIllegal = true ↔ b0 ∈ illegalBytes := by
  rw [describe_isIllegal, Option.isNone_iff_eq_none, Instr.kind_eq_none]
  exact ⟨fun ⟨_, h⟩ => (decode_eq_illegal h).2, fun h => ⟨b0, decode_illegal h b1 b2⟩⟩

/-- A descriptor holds the three bytes, at most two selectors, and the mode of its length (R106). -/
theorem describe_eq_descriptor {b0 b1 b2 : Byte} {e : Descriptor} (h : describe b0 b1 b2 = .descriptor e) :
    e.opcode = b0 ∧ e.b1 = b1 ∧ e.b2 = b2 ∧ e.selectors.length ≤ 2 ∧
    (describe b0 b1 b2).length = (decode e.opcode e.b1 e.b2).length := by
  cases hk : (decode b0 b1 b2).kind with
  | none =>
    simp only [describe, hk] at h
    cases h
  | some k =>
    rw [describe_of_kind hk] at h ⊢
    cases h
    exact ⟨rfl, rfl, rfl, List.length_map (OpcodeField.select b0) ▸ k.fields_length_le, rfl⟩

theorem peekFrom_length_pos (s : State) {k : Nat} (hk : 0 < k) (a : Word) : 0 < (peekFrom s k a).length := by
  cases k with
  | zero => exact absurd hk (lt_irrefl 0)
  | succ k => exact Nat.succ_pos _

/-- Entry `n` of a listing from `a`, by the recursion of the listing. -/
theorem peekFrom_entry (s : State) : ∀ (k : Nat) (a : Word) (n : Nat) (b : Word) (d : Decoded),
    (peekFrom s k a)[n]? = some (b, d) →
    n < k ∧ d = describeAt s b ∧ b = a + BitVec.ofNat 16 (((peekFrom s k a).take n).map fun e => e.2.length).sum ∧
    (∀ e ∈ (peekFrom s k a).take n, e.2.isIllegal = false) ∧
    (d.isIllegal = false → n + 1 < k → n + 1 < (peekFrom s k a).length) ∧
    (d.isIllegal = true → (peekFrom s k a).length = n + 1)
  | 0, a, n, b, d, h => by cases h
  | k + 1, a, 0, b, d, h => by
    cases h
    refine ⟨Nat.succ_pos k, rfl, (add_zero a).symm, nofun, fun hlegal hk => ?_, fun hill => ?_⟩
    · rw [peekFrom, hlegal]
      exact Nat.succ_lt_succ (peekFrom_length_pos s (Nat.lt_of_succ_lt_succ hk) _)
    · rw [peekFrom, if_pos hill]
      rfl
  | k + 1, a, n + 1, b, d, h => by
    rw [peekFrom, List.getElem?_cons_succ] at h
    cases hlegal : (describeAt s a).isIllegal with
    | true =>
      rw [hlegal] at h
      cases h
    | false =>
      have hlist : peekFrom s (k + 1) a =
          (a, describeAt s a) :: peekFrom s k (a + BitVec.ofNat 16 (describeAt s a).length) := by
        rw [peekFrom, hlegal]
        rfl
      rw [hlegal] at h
      obtain ⟨hn, hd, hb, hbefore, hmore, hlast⟩ := peekFrom_entry s k _ n b d h
      rw [hlist, List.take_succ_cons, List.map_cons, List.sum_cons, List.length_cons]
      refine ⟨Nat.succ_lt_succ hn, hd, ?_, ?_, fun hl hk => Nat.succ_lt_succ (hmore hl (Nat.lt_of_succ_lt_succ hk)),
        fun hl => congrArg Nat.succ (hlast hl)⟩
      · rw [BitVec.ofNat_add, ← add_assoc]
        exact hb
      · exact List.forall_mem_cons.mpr ⟨hlegal, hbefore⟩

/-- Settles O59: the layout by the recursion of the listing, the entries by the laws of the descriptor. -/
theorem peekFollowsTheSequentialLayout : Obligations.PeekFollowsTheSequentialLayout := by
  intro s k
  refine ⟨fun hk => ?_, fun n a d h => ?_⟩
  · cases k with
    | zero => exact absurd hk (lt_irrefl 0)
    | succ k => rfl
  · obtain ⟨hn, rfl, ha, hbefore, hmore, hlast⟩ := peekFrom_entry s k s.pc n a d h
    exact ⟨hn, rfl, ha, hbefore, describe_isIllegal_iff _ _ _, hmore, hlast, fun _ => describe_eq_descriptor⟩

theorem stepState_of_step {s t : State} (h : step s = .next t) : stepState s = t := by
  rw [stepState, h]

/-- Settles O60, by the definition of each operation; a step has a next state, and a write stores one byte. -/
theorem hostOperationsTouchOnlyTheirPart : Obligations.HostOperationsTouchOnlyTheirPart := by
  intro x a v k rate
  obtain ⟨t, ht⟩ := step_next x.proc
  have hadvance : stepState x.proc = t := stepState_of_step ht
  refine ⟨⟨snapshot x.proc, rfl, rfl, rfl, rfl, rfl, rfl, rfl, rfl, rfl, rfl, rfl, rfl, rfl, rfl⟩, rfl, rfl, rfl,
    ⟨_, rfl, rfl, resetStop_eq x.proc.stop⟩, ⟨_, rfl, rfl, fun hw => memWrite_storesByte hw a v⟩, t, ht, ?_, ?_⟩
  · rw [Session.serve, hadvance]
  · rw [Session.serve, hadvance]

end Sys2Proof.Machine
end

section
/-! PROOFS. The arithmetic and logical group (`41_arith_logic.md`): the operations with a carry-in, and ANA, XRA,
ORA. -/

namespace Sys2Proof.Machine

theorem toNat_eq_ite (c : Bool) : c.toNat = if c then 1 else 0 := by
  cases c <;> rfl

/-- Settles O20: each form runs `aluOn .adc`, whose result and flags are those of `add_result_flags`. -/
theorem adcGivesSumWithCarryAndFlags : Obligations.AdcGivesSumWithCarryAndFlags := by
  intro s d bytes i b h hf
  obtain ⟨henc, p, q, hexec⟩ := encodes_and_exec_of_mem_aluForms (op := .adc) h hf
  obtain ⟨hsum, hzsp, hcy, hac⟩ := add_result_flags s.a b s.flags.cy s.flags
  rw [toNat_eq_ite] at hsum hcy
  exact ⟨henc, _, hexec, rfl, hsum, hzsp, hcy, hac⟩

/-- Settles O22: each form runs `aluOn .sbb`, whose result and flags are those of `sub_result_flags`. -/
theorem sbbGivesDifferenceWithBorrowAndFlags : Obligations.SbbGivesDifferenceWithBorrowAndFlags := by
  intro s d bytes i b h hf
  obtain ⟨henc, p, q, hexec⟩ := encodes_and_exec_of_mem_aluForms (op := .sbb) h hf
  obtain ⟨hdiff, hzsp, hcy, hac⟩ := sub_result_flags s.a b s.flags.cy s.flags
  rw [toNat_eq_ite, Nat.cast_ite, Nat.cast_one, Nat.cast_zero] at hdiff
  rw [toNat_eq_ite] at hcy
  exact ⟨henc, _, hexec, rfl, hdiff, hzsp, hcy, hac⟩

/-- The three logical operations, each with its operation on one bit. -/
def logicOps : List (AluOp × (Bool → Bool → Bool)) :=
  [(.ana, fun p q => p && q), (.xra, fun p q => p ^^ q), (.ora, fun p q => p || q)]

/-- The nine forms of each logical operation. It computes to the table that the statement writes out. -/
def logicForms (s : State) (d : Byte) : List (List Byte × Instr × Byte × (Bool → Bool → Bool)) :=
  logicOps.flatMap fun (op, f) => (aluForms op s d).map fun (bytes, i, b) => (bytes, i, b, f)

/-- A logical operation writes a result whose bits are those of its operation, and the flags of that result. -/
theorem aluOn_logic {op : AluOp} {f : Bool → Bool → Bool} (h : (op, f) ∈ logicOps) (b : Byte) (s : State) :
    ∃ r, aluOn op b s = { s with a := r, flags := logicFlags r s.flags } ∧
      ∀ k, r.getLsbD k = f (s.a.getLsbD k) (b.getLsbD k) := by
  simp only [logicOps, List.mem_cons, Prod.mk.injEq, List.not_mem_nil, or_false] at h
  rcases h with ⟨rfl, rfl⟩ | ⟨rfl, rfl⟩ | ⟨rfl, rfl⟩
  · exact ⟨_, rfl, fun _ => BitVec.getLsbD_and⟩
  · exact ⟨_, rfl, fun _ => BitVec.getLsbD_xor⟩
  · exact ⟨_, rfl, fun _ => BitVec.getLsbD_or⟩

/-- Settles O23: each form runs `aluOn` of its operation. -/
theorem logicGivesBitwiseResultAndClearsCarries : Obligations.LogicGivesBitwiseResultAndClearsCarries := by
  intro s d bytes i b f h hf
  replace h : (bytes, i, b, f) ∈ logicForms s d := h
  rw [logicForms, List.mem_flatMap] at h
  obtain ⟨⟨op, g⟩, hop, h⟩ := h
  rw [List.mem_map] at h
  obtain ⟨⟨bytes', i', b'⟩, h, heq⟩ := h
  cases heq
  obtain ⟨henc, p, q, hexec⟩ := encodes_and_exec_of_mem_aluForms h hf
  obtain ⟨r, haluOn, hbits⟩ := aluOn_logic hop b s
  rw [haluOn] at hexec
  exact ⟨henc, _, hexec, rfl, fun k _ => hbits k, zsp_zspOf _ _, rfl, rfl⟩

end Sys2Proof.Machine
end

section
/-! PROOFS. The data transfer group (`44_data_transfer.md`): loads and stores of bytes and words. -/

namespace Sys2Proof.Machine

/-- The bytes of an instruction, as many as its shape has, encode it. -/
theorem encodes_of_shape {b0 b1 b2 : Byte} {x : Shape} (hx : shapeOf (decode b0 b1 b2) = x) :
    Encodes ([b0, b1, b2].take x.length) (decode b0 b1 b2) := by
  rw [← hx, length_shapeOf]
  exact encodes_take_decode b0 b1 b2

/-- The ten byte loads: bytes, instruction, destination and address. It computes to the table of
`Obligations.LoadsReadTheAddressedByte`. -/
def loadForms (s : State) (lo hi : Byte) : List (List Byte × Instr × Reg × Word) :=
  [Reg.b, .c, .d, .e, .h, .l, .a].map
    (fun r => ([field3 0b01 r.code 0b110], decode (field3 0b01 r.code 0b110) 0x00 0x00, r, s.hl)) ++
  [([0x3A, lo, hi], .lda (hi ++ lo), .a, hi ++ lo), ([0x0A], .ldaxB, .a, s.b ++ s.c), ([0x1A], .ldaxD, .a, s.d ++ s.e)]

/-- Each load is encoded by its bytes, and where it fits it writes its register with the byte at its address. -/
theorem encodes_and_exec_of_mem_loadForms {s : State} {lo hi : Byte} {bytes : List Byte} {i : Instr} {dst : Reg}
    {addr : Word} (h : (bytes, i, dst, addr) ∈ loadForms s lo hi) (hf : s.Fits bytes.length) :
    Encodes bytes i ∧ ∃ p q, exec i s = .next { s.setReg dst (s.memRead addr) with pc := p, stop := q } := by
  rw [loadForms, List.mem_append, List.mem_map] at h
  rcases h with ⟨r, -, h⟩ | h
  · cases h
    have hx := shapeOf_decode_mov (dst := .reg dst) (src := .m) nofun 0x00 0x00
    have henc := encodes_of_shape hx
    exact ⟨henc, exec_of_shape hx nofun hf rfl⟩
  · simp only [List.mem_cons, List.not_mem_nil, or_false] at h
    rcases h with h | h | h <;> cases h
    · exact ⟨encodes_three.mpr rfl, exec_of_shape (x := .lda (hi ++ lo)) rfl nofun hf rfl⟩
    · exact ⟨encodes_one.mpr fun _ _ => rfl, exec_of_shape (x := .ldax .bc) rfl nofun hf rfl⟩
    · exact ⟨encodes_one.mpr fun _ _ => rfl, exec_of_shape (x := .ldax .de) rfl nofun hf rfl⟩

/-- Settles O26: each load is one register write. -/
theorem loadsReadTheAddressedByte : Obligations.LoadsReadTheAddressedByte := by
  intro s lo hi bytes i dst addr h hf
  obtain ⟨henc, p, q, hexec⟩ := encodes_and_exec_of_mem_loadForms (lo := lo) (hi := hi) h hf
  refine ⟨henc, _, hexec, ?_, onlyRegsChange_setReg s dst (s.memRead addr) p q⟩
  rw [State.reg_with_pc_stop, State.reg_setReg_same]

/-- The eleven byte stores: bytes, instruction, address and byte. It computes to the table of
`Obligations.StoresWriteTheAddressedByte`. -/
def storeForms (s : State) (lo hi : Byte) : List (List Byte × Instr × Word × Byte) :=
  [Reg.b, .c, .d, .e, .h, .l, .a].map
    (fun r => ([field3 0b01 0b110 r.code], decode (field3 0b01 0b110 r.code) 0x00 0x00, s.hl, s.reg r)) ++
  [([0x36, lo], .mviM lo, s.hl, lo), ([0x32, lo, hi], .sta (hi ++ lo), hi ++ lo, s.a),
    ([0x02], .staxB, s.b ++ s.c, s.a), ([0x12], .staxD, s.d ++ s.e, s.a)]

/-- Each store is encoded by its bytes, and where it fits it writes its byte at its address. -/
theorem encodes_and_exec_of_mem_storeForms {s : State} {lo hi v : Byte} {bytes : List Byte} {i : Instr} {addr : Word}
    (h : (bytes, i, addr, v) ∈ storeForms s lo hi) (hf : s.Fits bytes.length) :
    Encodes bytes i ∧ ∃ p q, exec i s = .next { s.memWrite addr v with pc := p, stop := q } := by
  rw [storeForms, List.mem_append, List.mem_map] at h
  rcases h with ⟨r, -, h⟩ | h
  · cases h
    have hx := shapeOf_decode_mov (dst := .m) (src := .reg r) nofun 0x00 0x00
    have henc := encodes_of_shape hx
    exact ⟨henc, exec_of_shape hx nofun hf rfl⟩
  · simp only [List.mem_cons, List.not_mem_nil, or_false] at h
    rcases h with h | h | h | h <;> cases h
    · exact ⟨encodes_two.mpr fun _ => rfl, exec_of_shape (x := .mvi .m lo) rfl nofun hf rfl⟩
    · exact ⟨encodes_three.mpr rfl, exec_of_shape (x := .sta (hi ++ lo)) rfl nofun hf rfl⟩
    · exact ⟨encodes_one.mpr fun _ _ => rfl, exec_of_shape (x := .stax .bc) rfl nofun hf rfl⟩
    · exact ⟨encodes_one.mpr fun _ _ => rfl, exec_of_shape (x := .stax .de) rfl nofun hf rfl⟩

/-- Settles O27: each store is one byte write. -/
theorem storesWriteTheAddressedByte : Obligations.StoresWriteTheAddressedByte := by
  intro s lo hi bytes i addr v h hf hw
  obtain ⟨henc, p, q, hexec⟩ := encodes_and_exec_of_mem_storeForms (lo := lo) (hi := hi) h hf
  exact ⟨henc, _, hexec, memWrite_storesByte hw addr v, rfl⟩

/-- The byte, the instruction and the register of each register form of MVI. It computes to the table of
`Obligations.MviLoadsTheImmediateByte`. -/
def mviForms (d : Byte) : List (Byte × Instr × Reg) :=
  [Reg.b, .c, .d, .e, .h, .l, .a].map
    fun r => (field3 0b00 r.code 0b110, decode (field3 0b00 r.code 0b110) d 0x00, r)

/-- Settles O28: each form is the pattern `00ddd110` of its register, and runs `State.setReg`. -/
theorem mviLoadsTheImmediateByte : Obligations.MviLoadsTheImmediateByte := by
  intro s d op i dst h hf
  replace h : (op, i, dst) ∈ mviForms d := h
  rw [mviForms, List.mem_map] at h
  obtain ⟨r, -, h⟩ := h
  cases h
  have hx := shapeOf_decode_mvi (.reg dst) d 0x00
  obtain ⟨p, q, hexec, hadv⟩ := exec_advances_of_shape hx nofun hf rfl
  have henc := encodes_of_shape hx
  refine ⟨henc, _, hexec, ?_, onlyRegsChange_setReg s dst d p q, hadv⟩
  rw [State.reg_with_pc_stop]
  exact s.reg_setReg_same dst d

theorem setPair_bc_joinBytes (s : State) (hi lo : Byte) :
    s.setPair .bc (joinBytes hi lo) = { s with b := hi, c := lo } := by
  rw [State.setPair, highByte_joinBytes, lowByte_joinBytes]

theorem setPair_de_joinBytes (s : State) (hi lo : Byte) :
    s.setPair .de (joinBytes hi lo) = { s with d := hi, e := lo } := by
  rw [State.setPair, highByte_joinBytes, lowByte_joinBytes]

theorem setPair_hl_joinBytes (s : State) (hi lo : Byte) :
    s.setPair .hl (joinBytes hi lo) = { s with h := hi, l := lo } := by
  rw [State.setPair, highByte_joinBytes, lowByte_joinBytes]

/-- Settles O29: each form runs `State.setPair` on the word of its two operand bytes. -/
theorem lxiLoadsTheImmediateWord : Obligations.LxiLoadsTheImmediateWord := by
  intro s lo hi hf
  refine ⟨⟨encodes_three.mpr rfl, ?_⟩, ⟨encodes_three.mpr rfl, ?_⟩, ⟨encodes_three.mpr rfl, ?_⟩,
    ⟨encodes_three.mpr rfl, ?_⟩⟩
  · exact exec_frame_of_shape (x := .lxi .bc (joinBytes hi lo)) rfl nofun hf (setPair_bc_joinBytes s hi lo)
  · exact exec_frame_of_shape (x := .lxi .de (joinBytes hi lo)) rfl nofun hf (setPair_de_joinBytes s hi lo)
  · exact exec_frame_of_shape (x := .lxi .hl (joinBytes hi lo)) rfl nofun hf (setPair_hl_joinBytes s hi lo)
  · exact exec_frame_of_shape (x := .lxi .sp (joinBytes hi lo)) rfl nofun hf rfl

/-- Settles O30: LHLD reads two bytes of the old memory, and SHLD stores the word of H and L. -/
theorem lhldAndShldMoveHlLittleEndian : Obligations.LhldAndShldMoveHlLittleEndian := by
  intro s lo hi hf hw
  refine ⟨⟨encodes_three.mpr rfl, ?_⟩, encodes_three.mpr rfl, ?_⟩
  · exact exec_frame_of_shape (x := .lhld (hi ++ lo)) rfl nofun hf rfl
  · obtain ⟨p, q, hexec⟩ := exec_of_shape (i := .shld (hi ++ lo)) rfl nofun hf rfl
    exact ⟨_, hexec, memWrite_memWrite_storesWord hw (hi ++ lo) s.h s.l, rfl⟩

end Sys2Proof.Machine
end

section
/-! PROOFS. Increment, decrement and 16-bit add (`45_inc_dec_dad.md`). -/

namespace Sys2Proof.Machine

/-- The flags of INR: Z, S and P of the result, AC from the low nibble, CY kept (R350, R351). -/
theorem incFlags_spec (v : Byte) (f : Flags) :
    (incFlags v f).ZspOf (v + 1) ∧ ((incFlags v f).ac = true ↔ v.toNat % 16 = 15) ∧ (incFlags v f).cy = f.cy :=
  ⟨zsp_zspOf _ _, beq_iff_eq, rfl⟩

/-- The flags of DCR: Z, S and P of the result, AC from the low nibble, CY kept (R350, R351). -/
theorem decFlags_spec (v : Byte) (f : Flags) :
    (decFlags v f).ZspOf (v - 1) ∧ ((decFlags v f).ac = true ↔ v.toNat % 16 = 0) ∧ (decFlags v f).cy = f.cy :=
  ⟨zsp_zspOf _ _, beq_iff_eq, rfl⟩

/-- What a write of a register and the flags leaves, up to PC and STOP. -/
theorem setReg_flags_frame (s : State) (r : Reg) (v : Byte) (f : Flags) (p : Word) (q : Stop) :
    let t : State := { s.setReg r v with flags := f, pc := p, stop := q }
    t.reg r = v ∧ (∀ k, k ≠ r → t.reg k = s.reg k) ∧ t.sp = s.sp ∧ t.inte = s.inte ∧ t.outLatch = s.outLatch ∧
      t.mem = s.mem ∧ t.inCount = s.inCount := by
  have hreg (k : Reg) : ({ s.setReg r v with flags := f, pc := p, stop := q } : State).reg k =
      (s.setReg r v).reg k := by
    cases k <;> rfl
  exact ⟨(hreg r).trans (s.reg_setReg_same r v), fun k hk => (hreg k).trans (s.reg_setReg_ne r k v hk), s.setReg_sp r v,
    s.setReg_inte r v, s.setReg_outLatch r v, s.setReg_mem r v, s.setReg_inCount r v⟩

/-- The byte, the instruction and the register of each register form of the pattern `00ddd` with the low bits `lo`. -/
def stepForms (lo : BitVec 3) : List (Byte × Instr × Reg) :=
  [Reg.b, .c, .d, .e, .h, .l, .a].map fun r => (field3 0b00 r.code lo, decode (field3 0b00 r.code lo) 0x00 0x00, r)

theorem eq_of_mem_stepForms {lo : BitVec 3} {op : Byte} {i : Instr} {r : Reg} (h : (op, i, r) ∈ stepForms lo) :
    op = field3 0b00 r.code lo ∧ i = decode (field3 0b00 r.code lo) 0x00 0x00 := by
  rw [stepForms, List.mem_map] at h
  obtain ⟨k, -, h⟩ := h
  cases h
  exact ⟨rfl, rfl⟩

/-- Settles O32: each form runs `incOperand` on its operand. -/
theorem inrSetsFlagsButCarry : Obligations.InrSetsFlagsButCarry := by
  constructor
  · intro s op i r h
    obtain ⟨rfl, rfl⟩ := eq_of_mem_stepForms (lo := 0b100) h
    have hx := shapeOf_decode_inr (.reg r) 0x00 0x00
    have henc := encodes_of_shape hx
    obtain ⟨p, q, hexec⟩ := exec_of_shape hx nofun s.fits_one rfl
    obtain ⟨hzsp, hac, hcy⟩ := incFlags_spec (s.reg r) s.flags
    obtain ⟨hr, hother, hframe⟩ := setReg_flags_frame s r (s.reg r + 1) (incFlags (s.reg r) s.flags) p q
    exact ⟨henc, _, hexec, hr, hother, hzsp, hac, hcy, hframe⟩
  · intro s hw
    obtain ⟨p, q, hexec⟩ := exec_of_shape (i := .inrM) rfl nofun s.fits_one rfl
    obtain ⟨hzsp, hac, hcy⟩ := incFlags_spec (s.memRead s.hl) s.flags
    exact ⟨encodes_one.mpr fun _ _ => rfl, _, hexec, memWrite_storesByte hw _ _, hzsp, hac, hcy, rfl⟩

/-- Settles O33: each form runs `decOperand` on its operand. -/
theorem dcrSetsFlagsButCarry : Obligations.DcrSetsFlagsButCarry := by
  constructor
  · intro s op i r h
    obtain ⟨rfl, rfl⟩ := eq_of_mem_stepForms (lo := 0b101) h
    have hx := shapeOf_decode_dcr (.reg r) 0x00 0x00
    have henc := encodes_of_shape hx
    obtain ⟨p, q, hexec⟩ := exec_of_shape hx nofun s.fits_one rfl
    obtain ⟨hzsp, hac, hcy⟩ := decFlags_spec (s.reg r) s.flags
    obtain ⟨hr, hother, hframe⟩ := setReg_flags_frame s r (s.reg r - 1) (decFlags (s.reg r) s.flags) p q
    exact ⟨henc, _, hexec, hr, hother, hzsp, hac, hcy, hframe⟩
  · intro s hw
    obtain ⟨p, q, hexec⟩ := exec_of_shape (i := .dcrM) rfl nofun s.fits_one rfl
    obtain ⟨hzsp, hac, hcy⟩ := decFlags_spec (s.memRead s.hl) s.flags
    exact ⟨encodes_one.mpr fun _ _ => rfl, _, hexec, memWrite_storesByte hw _ _, hzsp, hac, hcy, rfl⟩

/-- The two bytes of a word as one number. -/
theorem toNat_high_low (v : Word) : (highByte v).toNat * 256 + (lowByte v).toNat = v.toNat := by
  rw [← toNat_joinBytes, joinBytes_high_low]

theorem toNat_word_sub_one (v : Word) : (v - 1).toNat = (v.toNat + 65535) % 65536 := by
  bv_omega

/-- A pair of registers after INX. -/
theorem toNat_joinBytes_add_one (hi lo : Byte) :
    (highByte (joinBytes hi lo + 1)).toNat * 256 + (lowByte (joinBytes hi lo + 1)).toNat =
      (hi.toNat * 256 + lo.toNat + 1) % 65536 := by
  rw [toNat_high_low, BitVec.toNat_add, toNat_joinBytes]
  rfl

/-- A pair of registers after DCX. -/
theorem toNat_joinBytes_sub_one (hi lo : Byte) :
    (highByte (joinBytes hi lo - 1)).toNat * 256 + (lowByte (joinBytes hi lo - 1)).toNat =
      (hi.toNat * 256 + lo.toNat + 65535) % 65536 := by
  rw [toNat_high_low, toNat_word_sub_one, toNat_joinBytes]

/-- Settles O34: each form runs `State.setPair` on the word of the pair, plus or minus one. -/
theorem inxAndDcxStepThePairWithoutFlags : Obligations.InxAndDcxStepThePairWithoutFlags := by
  intro s
  refine ⟨⟨encodes_one.mpr fun _ _ => rfl, ?_⟩, ⟨encodes_one.mpr fun _ _ => rfl, ?_⟩,
    ⟨encodes_one.mpr fun _ _ => rfl, ?_⟩, ⟨encodes_one.mpr fun _ _ => rfl, ?_⟩, ⟨encodes_one.mpr fun _ _ => rfl, ?_⟩,
    ⟨encodes_one.mpr fun _ _ => rfl, ?_⟩, ⟨encodes_one.mpr fun _ _ => rfl, ?_⟩, encodes_one.mpr fun _ _ => rfl, ?_⟩
  · exact exists_exec_of_shape rfl nofun s.fits_one fun _ _ => ⟨toNat_joinBytes_add_one s.b s.c, rfl⟩
  · exact exists_exec_of_shape rfl nofun s.fits_one fun _ _ => ⟨toNat_joinBytes_add_one s.d s.e, rfl⟩
  · exact exists_exec_of_shape rfl nofun s.fits_one fun _ _ => ⟨toNat_joinBytes_add_one s.h s.l, rfl⟩
  · exact exists_exec_of_shape rfl nofun s.fits_one fun _ _ => ⟨BitVec.toNat_add s.sp 1, rfl⟩
  · exact exists_exec_of_shape rfl nofun s.fits_one fun _ _ => ⟨toNat_joinBytes_sub_one s.b s.c, rfl⟩
  · exact exists_exec_of_shape rfl nofun s.fits_one fun _ _ => ⟨toNat_joinBytes_sub_one s.d s.e, rfl⟩
  · exact exists_exec_of_shape rfl nofun s.fits_one fun _ _ => ⟨toNat_joinBytes_sub_one s.h s.l, rfl⟩
  · exact exists_exec_of_shape rfl nofun s.fits_one fun _ _ => ⟨toNat_word_sub_one s.sp, rfl⟩

/-- The value of a pair as a number, written out from its registers. -/
def pairNat (s : State) : Pair → Nat
  | .bc => s.b.toNat * 256 + s.c.toNat
  | .de => s.d.toNat * 256 + s.e.toNat
  | .hl => s.h.toNat * 256 + s.l.toNat
  | .sp => s.sp.toNat

theorem toNat_pair (s : State) (p : Pair) : (s.pair p).toNat = pairNat s p := by
  cases p with
  | bc | de | hl => exact toNat_joinBytes _ _
  | sp => rfl

/-- The byte, the instruction and the added number of each form of DAD. It computes to the table of
`Obligations.DadAddsThePairToHl`. -/
def dadForms (s : State) : List (Byte × Instr × Nat) :=
  [Pair.bc, .de, .hl, .sp].map
    fun p => (field2 0b00 p.code 0b1001, decode (field2 0b00 p.code 0b1001) 0x00 0x00, pairNat s p)

/-- Settles O35: each form runs `addToHl` on its pair. -/
theorem dadAddsThePairToHl : Obligations.DadAddsThePairToHl := by
  intro s op i x h
  replace h : (op, i, x) ∈ dadForms s := h
  rw [dadForms, List.mem_map] at h
  obtain ⟨pair, -, h⟩ := h
  cases h
  have hx := shapeOf_decode_dad pair 0x00 0x00
  have henc := encodes_of_shape hx
  obtain ⟨p, q, hexec⟩ := exec_of_shape hx nofun s.fits_one rfl
  have hsum : dadExact s.hl (s.pair pair) = s.h.toNat * 256 + s.l.toNat + pairNat s pair := by
    rw [dadExact, toNat_pair, State.hl, toNat_joinBytes]
  refine ⟨henc, _, hexec, ?_, ?_, rfl⟩
  · exact (toNat_high_low _).trans (by rw [BitVec.toNat_ofNat, hsum])
  · show decide (0xFFFF < dadExact s.hl (s.pair pair)) = true ↔ _
    rw [decide_eq_true_iff, hsum]

end Sys2Proof.Machine
end

section
/-! PROOFS. The rotate, decimal and flag group (`46_rotate_decimal_flags.md`): rotates, DAA, CMA. -/

namespace Sys2Proof.Machine

theorem getLsbD_bitLow (c : Bool) (k : Nat) : (bitLow c).getLsbD k = (c && decide (k = 0)) := by
  cases c <;> simp [bitLow]

/-- A shift to the left with `c` in the free place. -/
theorem getLsbD_shiftLeft_or_bitLow (v : Byte) (c : Bool) :
    (∀ k, k < 7 → ((v <<< 1) ||| bitLow c).getLsbD (k + 1) = v.getLsbD k) ∧
    ((v <<< 1) ||| bitLow c).getLsbD 0 = c := by
  refine ⟨fun k hk => ?_, ?_⟩
  · rw [BitVec.getLsbD_or, BitVec.getLsbD_shiftLeft, getLsbD_bitLow]
    simp [show k + 1 < 8 by omega]
  · rw [BitVec.getLsbD_or, BitVec.getLsbD_shiftLeft, getLsbD_bitLow]
    simp

/-- A shift to the right with `c` in the free place. -/
theorem getLsbD_shiftRight_or_bitHigh (v : Byte) (c : Bool) :
    (∀ k, k < 7 → ((v >>> 1) ||| (bitLow c <<< 7)).getLsbD k = v.getLsbD (k + 1)) ∧
    ((v >>> 1) ||| (bitLow c <<< 7)).getLsbD 7 = c := by
  refine ⟨fun k hk => ?_, ?_⟩
  · rw [BitVec.getLsbD_or, BitVec.getLsbD_ushiftRight, BitVec.getLsbD_shiftLeft]
    simp [hk, add_comm]
  · rw [BitVec.getLsbD_or, BitVec.getLsbD_ushiftRight, BitVec.getLsbD_shiftLeft, getLsbD_bitLow]
    simp

/-- Settles O36: each rotate is a shift by one place with the bit it says in the free place. -/
theorem rotatesMoveTheBitsOfAAndCarry : Obligations.RotatesMoveTheBitsOfAAndCarry := by
  intro s
  refine ⟨⟨encodes_one.mpr fun _ _ => rfl, ?_⟩, ⟨encodes_one.mpr fun _ _ => rfl, ?_⟩,
    ⟨encodes_one.mpr fun _ _ => rfl, ?_⟩, encodes_one.mpr fun _ _ => rfl, ?_⟩
  · obtain ⟨hmoved, hfree⟩ := getLsbD_shiftLeft_or_bitLow s.a (s.a.getLsbD 7)
    exact exists_exec_of_shape rfl nofun s.fits_one fun _ _ => ⟨rfl, hmoved, hfree, rfl⟩
  · obtain ⟨hmoved, hfree⟩ := getLsbD_shiftRight_or_bitHigh s.a (s.a.getLsbD 0)
    exact exists_exec_of_shape rfl nofun s.fits_one fun _ _ => ⟨rfl, hmoved, hfree, rfl⟩
  · obtain ⟨hmoved, hfree⟩ := getLsbD_shiftLeft_or_bitLow s.a s.flags.cy
    exact exists_exec_of_shape rfl nofun s.fits_one fun _ _ => ⟨rfl, hmoved, hfree, rfl⟩
  · obtain ⟨hmoved, hfree⟩ := getLsbD_shiftRight_or_bitHigh s.a s.flags.cy
    exact exists_exec_of_shape rfl nofun s.fits_one fun _ _ => ⟨rfl, hmoved, hfree, rfl⟩

/-- Settles O40: the complement of a byte is 255 minus it. -/
theorem cmaComplementsAWithoutFlags : Obligations.CmaComplementsAWithoutFlags := by
  intro s
  obtain ⟨p, q, hexec⟩ := exec_of_shape (i := .cma) rfl nofun s.fits_one rfl
  exact ⟨encodes_one.mpr fun _ _ => rfl, _, hexec, BitVec.toNat_not, rfl⟩

/-! DAA (R375). -/

theorem daaLow_iff (a : Byte) (f : Flags) : daaLow a f = true ↔ 9 < a.toNat % 16 ∨ f.ac = true := by
  rw [daaLow, Bool.or_eq_true, decide_eq_true_iff, lowNibble]

theorem daaHigh_iff (a : Byte) (f : Flags) : daaHigh a f = true ↔ 0x99 < a.toNat ∨ f.cy = true := by
  rw [daaHigh, Bool.or_eq_true, decide_eq_true_iff]

/-- The correction byte is the sum of the two corrections, and its low nibble is the first of them. -/
theorem toNat_daaCorrection (a : Byte) (f : Flags) :
    (daaCorrection a f).toNat = (if daaLow a f then 6 else 0) + (if daaHigh a f then 0x60 else 0) ∧
    lowNibble (daaCorrection a f) = if daaLow a f then 6 else 0 := by
  unfold daaCorrection
  cases daaLow a f <;> cases daaHigh a f <;> exact ⟨rfl, rfl⟩

/-- Everything DAA gives: the result, and the five flags. -/
theorem daa_result_flags (a : Byte) (f : Flags) :
    (daaResult a f).toNat = (a.toNat + (if 9 < a.toNat % 16 ∨ f.ac = true then 6 else 0) +
      (if 0x99 < a.toNat ∨ f.cy = true then 0x60 else 0)) % 256 ∧
    (daaFlags a f).ZspOf (daaResult a f) ∧
    ((daaFlags a f).ac = true ↔ 15 < a.toNat % 16 + (if 9 < a.toNat % 16 ∨ f.ac = true then 6 else 0)) ∧
    ((daaFlags a f).cy = true ↔ 0x99 < a.toNat ∨ f.cy = true) := by
  obtain ⟨hsum, hlow⟩ := toNat_daaCorrection a f
  simp only [daaLow_iff, daaHigh_iff] at hsum hlow
  refine ⟨?_, zsp_zspOf _ _, ?_, daaHigh_iff a f⟩
  · rw [daaResult, BitVec.toNat_ofNat, hsum, add_assoc]
  · rw [daaFlags, zsp_ac, decide_eq_true_iff, hlow, lowNibble]

/-- Settles O37: DAA runs `decimalAdjust`, whose result and flags are those of `daa_result_flags`. -/
theorem daaAppliesTheTwoCorrections : Obligations.DaaAppliesTheTwoCorrections := by
  intro s
  obtain ⟨p, q, hexec⟩ := exec_of_shape (i := .daa) rfl nofun s.fits_one rfl
  exact ⟨encodes_one.mpr fun _ _ => rfl, _, hexec, rfl, daa_result_flags s.a s.flags⟩

/-- The packed-BCD form of a number below 100. -/
def packedBcd (x : Nat) : Nat := x / 10 * 16 + x % 10

/-- With the high digits summing to `u` and the low ones to `v`, the binary sum, corrected in each digit that went above
9 or out of its place, is the packed-BCD form of the decimal sum. Each digit is at most 9. -/
theorem digit_sums_corrected : ∀ u < 19, ∀ v < 19,
    ((16 * u + v) % 256 + (if 9 < (16 * u + v) % 256 % 16 ∨ 15 < v then 6 else 0) +
      (if 0x99 < (16 * u + v) % 256 ∨ 255 < 16 * u + v then 0x60 else 0)) % 256 = packedBcd ((10 * u + v) % 100) ∧
    (0x99 < (16 * u + v) % 256 ∨ 255 < 16 * u + v ↔ 100 ≤ 10 * u + v) := by
  decide

/-- The sum of two packed-BCD bytes, by the sums of their digits. -/
theorem packedBcd_add {x y : Nat} (hx : x < 100) (hy : y < 100) :
    ∃ u < 19, ∃ v < 19, packedBcd x + packedBcd y = 16 * u + v ∧ packedBcd x % 16 + packedBcd y % 16 = v ∧
      x + y = 10 * u + v := by
  refine ⟨x / 10 + y / 10, by omega, x % 10 + y % 10, by omega, ?_, ?_, by omega⟩
  · unfold packedBcd
    omega
  · unfold packedBcd
    omega

theorem toNat_ofNat_packedBcd {x : Nat} (hx : x < 100) : (BitVec.ofNat 8 (packedBcd x)).toNat = packedBcd x := by
  rw [BitVec.toNat_ofNat, packedBcd]
  omega

/-- Settles O38: the flags of the binary sum tell DAA which decimal digits went out of their place. -/
theorem addThenDaaIsDecimalAddition : Obligations.AddThenDaaIsDecimalAddition := by
  intro s x y hx hy hf ha
  replace ha : s.a.toNat = packedBcd x := ha ▸ toNat_ofNat_packedBcd hx
  obtain ⟨p, q, hadi⟩ := exec_of_shape (i := .adi (BitVec.ofNat 8 (packedBcd y))) rfl nofun hf rfl
  obtain ⟨p', q', hdaa⟩ := exec_of_shape (i := .daa) rfl nofun (State.fits_one _) rfl
  obtain ⟨hsum, -, hcy, hac⟩ := add_result_flags s.a (BitVec.ofNat 8 (packedBcd y)) false s.flags
  obtain ⟨hres, -, -, hcarry⟩ := daa_result_flags (addResult s.a (BitVec.ofNat 8 (packedBcd y)) false)
    (addFlags s.a (BitVec.ofNat 8 (packedBcd y)) false s.flags)
  obtain ⟨u, hu, v, hv, hdigits, hlow, hdecimal⟩ := packedBcd_add hx hy
  rw [ha, toNat_ofNat_packedBcd hy, Bool.toNat_false, add_zero, hdigits] at hsum hcy
  rw [ha, toNat_ofNat_packedBcd hy, hlow] at hac
  simp only [hsum, hcy, hac] at hres hcarry
  obtain ⟨hbcd, hhundred⟩ := digit_sums_corrected u hu v hv
  rw [hdecimal]
  refine ⟨_, _, hadi, hdaa, BitVec.eq_of_toNat_eq ?_, hcarry.trans hhundred⟩
  exact (hres.trans hbcd).trans (toNat_ofNat_packedBcd (Nat.mod_lt _ (by decide))).symm

end Sys2Proof.Machine
end

section
/-! PROOFS. The stack group (`43_stack.md`): PUSH and POP. -/

namespace Sys2Proof.Machine

/-- The byte, the instruction and the word of each register form of PUSH. It computes to the table of
`Obligations.PushStoresTheRegisterPair`. -/
def pushForms (s : State) : List (Byte × Instr × Word) :=
  [StackPair.bc, .de, .hl].map
    fun p => (field2 0b11 p.code 0b0101, decode (field2 0b11 p.code 0b0101) 0x00 0x00, s.stackPair p)

/-- Settles O45: each form runs `push16` on its pair. -/
theorem pushStoresTheRegisterPair : Obligations.PushStoresTheRegisterPair := by
  intro s op i v h hw
  replace h : (op, i, v) ∈ pushForms s := h
  rw [pushForms, List.mem_map] at h
  obtain ⟨pair, -, h⟩ := h
  cases h
  have hx := shapeOf_decode_push pair 0x00 0x00
  have henc := encodes_of_shape hx
  obtain ⟨p, q, hexec⟩ := exec_of_shape hx nofun s.fits_one rfl
  exact ⟨henc, _, hexec, push16_storesWord hw (s.stackPair pair), rfl⟩

/-- The word at the top of the stack, in two bytes. -/
theorem highByte_stackTop (s : State) : highByte (stackTop s) = s.memRead (s.sp + 1) := highByte_joinBytes _ _

theorem lowByte_stackTop (s : State) : lowByte (stackTop s) = s.memRead s.sp := lowByte_joinBytes _ _

/-- Settles O46: each form loads its pair from the word at the top of the stack. -/
theorem popLoadsTheRegisterPair : Obligations.PopLoadsTheRegisterPair := by
  intro s
  refine ⟨⟨encodes_one.mpr fun _ _ => rfl, ?_⟩, ⟨encodes_one.mpr fun _ _ => rfl, ?_⟩,
    encodes_one.mpr fun _ _ => rfl, ?_⟩
  · exact exec_frame_of_shape (x := .pop .bc) rfl nofun s.fits_one
      (setPair_bc_joinBytes (dropTop s) (s.memRead (s.sp + 1)) (s.memRead s.sp))
  · exact exec_frame_of_shape (x := .pop .de) rfl nofun s.fits_one
      (setPair_de_joinBytes (dropTop s) (s.memRead (s.sp + 1)) (s.memRead s.sp))
  · exact exec_frame_of_shape (x := .pop .hl) rfl nofun s.fits_one
      (setPair_hl_joinBytes (dropTop s) (s.memRead (s.sp + 1)) (s.memRead s.sp))

/-- The flags byte as a number: each flag at its bit, and bit 1 set (R43). -/
theorem toNat_packFlags (f : Flags) :
    (packFlags f).toNat = (if f.s then 128 else 0) + (if f.z then 64 else 0) + (if f.ac then 16 else 0) +
      (if f.p then 4 else 0) + 2 + (if f.cy then 1 else 0) := by
  rcases f with ⟨_ | _, _ | _, _ | _, _ | _, _ | _⟩ <;> rfl

/-- Settles O47: PUSH PSW stores the word of the flags byte above A, and POP PSW takes it apart. -/
theorem pswIsFlagsAboveA : Obligations.PswIsFlagsAboveA := by
  refine ⟨fun s hw => ⟨encodes_one.mpr fun _ _ => rfl, ?_⟩, fun s => ⟨encodes_one.mpr fun _ _ => rfl, ?_⟩⟩
  · obtain ⟨p, q, hexec⟩ := exec_of_shape (i := .pushPSW) rfl nofun s.fits_one rfl
    have hread (x : Word) := push16_memRead hw (joinBytes (packFlags s.flags) s.a) x
    rw [highByte_joinBytes, lowByte_joinBytes] at hread
    have hne : s.sp - 1 ≠ s.sp - 2 := by bv_omega
    refine ⟨_, hexec, ?_, ?_, fun x h1 h2 => ?_, rfl⟩
    · exact (hread _).trans (if_pos rfl)
    · rw [← toNat_packFlags]
      exact congrArg BitVec.toNat ((hread _).trans ((if_neg hne).trans (if_pos rfl)))
    · exact (hread x).trans ((if_neg h2).trans (if_neg h1))
  · obtain ⟨p, q, hexec⟩ := exec_of_shape (i := .popPSW) rfl nofun s.fits_one rfl
    have hflags : unpackFlags (highByte (stackTop s)) = unpackFlags (s.memRead (s.sp + 1)) :=
      congrArg unpackFlags (highByte_stackTop s)
    exact ⟨_, hexec, lowByte_stackTop s, congrArg Flags.s hflags, congrArg Flags.z hflags, congrArg Flags.ac hflags,
      congrArg Flags.p hflags, congrArg Flags.cy hflags, rfl⟩

/-- The word pushed is the word at the top of the stack. -/
theorem stackTop_push16 {s : State} (hw : s.MemoryCanonical) (v : Word) : stackTop (push16 v s) = v := by
  have h1 : s.sp - 2 + 1 = s.sp - 1 := by bv_omega
  have hne : s.sp - 1 ≠ s.sp - 2 := by bv_omega
  rw [stackTop, State.memRead16, push16_memRead hw, push16_memRead hw, push16_sp, h1, if_neg hne, if_pos rfl,
    if_pos rfl, joinBytes_high_low]

/-- Dropping the word pushed leaves SP as before the push, and the word in memory. -/
theorem dropTop_push16 (v : Word) (s : State) (p : Word) (q : Stop) :
    dropTop { push16 v s with pc := p, stop := q } = { s with mem := (push16 v s).mem, pc := p, stop := q } := by
  have hsp : s.sp - 2 + 2 = s.sp := sub_add_cancel s.sp 2
  simp only [dropTop, push16, State.memWrite, hsp]

/-- A pair popped where a word was pushed gets the word, and SP is as before the push. -/
theorem popPair_push16 {s : State} (hw : s.MemoryCanonical) (pair : StackPair) (v : Word) (p : Word) (q : Stop) :
    popPair pair { push16 v s with pc := p, stop := q } =
      { s.setStackPair pair v with mem := (push16 v s).mem, pc := p, stop := q } := by
  have htop : stackTop { push16 v s with pc := p, stop := q } = v := stackTop_push16 hw v
  rw [popPair, htop, dropTop_push16]
  cases pair <;> rfl

/-- PUSH of a pair, by its instruction. -/
def pushInstr : StackPair → Instr
  | .bc => .pushB
  | .de => .pushD
  | .hl => .pushH
  | .psw => .pushPSW

/-- POP of a pair, by its instruction. -/
def popInstr : StackPair → Instr
  | .bc => .popB
  | .de => .popD
  | .hl => .popH
  | .psw => .popPSW

theorem exec_pushInstr (pair : StackPair) (s : State) :
    ∃ p q, exec (pushInstr pair) s = .next { push16 (s.stackPair pair) s with pc := p, stop := q } :=
  exec_of_shape (x := .push pair) (by cases pair <;> rfl) nofun s.fits_one rfl

theorem exec_popInstr (pair : StackPair) (s : State) :
    ∃ p q, exec (popInstr pair) s = .next { popPair pair s with pc := p, stop := q } :=
  exec_of_shape (x := .pop pair) (by cases pair <;> rfl) nofun s.fits_one rfl

/-- A PUSH of the pair `src` and a POP of the pair `dst` move the word of the one to the other. -/
theorem exec_push_pop {s : State} (hw : s.MemoryCanonical) (src dst : StackPair) :
    ∃ t p q, exec (pushInstr src) s = .next t ∧ t.mem = (push16 (s.stackPair src) s).mem ∧
      exec (popInstr dst) t = .next
        { s.setStackPair dst (s.stackPair src) with mem := (push16 (s.stackPair src) s).mem, pc := p, stop := q } := by
  obtain ⟨p, q, hpush⟩ := exec_pushInstr src s
  obtain ⟨p', q', hpop⟩ := exec_popInstr dst { push16 (s.stackPair src) s with pc := p, stop := q }
  rw [popPair_push16 hw] at hpop
  exact ⟨_, p', q', hpush, rfl, hpop⟩

/-- A push leaves the word that was at the top of the stack above it. -/
theorem stackTop_above_push16 {s u : State} (hw : s.MemoryCanonical) {v : Word} (hsp : u.sp = s.sp)
    (hmem : u.mem = (push16 v s).mem) : stackTop u = stackTop s := by
  have hread (x : Word) : u.memRead x = (push16 v s).memRead x := by rw [State.memRead, hmem, ← State.memRead]
  rw [stackTop, State.memRead16, hread, hread, push16_memRead hw, push16_memRead hw, hsp, if_neg (by bv_omega),
    if_neg (by bv_omega), if_neg (by bv_omega), if_neg (by bv_omega)]
  rfl

theorem popPair_de_of_stackTop {s : State} {hi lo : Byte} (h : stackTop s = joinBytes hi lo) :
    popPair .de s = { dropTop s with d := hi, e := lo } := by
  rw [popPair, h]
  exact setPair_de_joinBytes (dropTop s) hi lo

/-- The four pairs, each with its PUSH and POP. It computes to the table of `Obligations.PushThenPopRestoresThePair`. -/
def pushPopForms : List (Instr × Instr) :=
  [StackPair.bc, .de, .hl, .psw].map fun pair => (pushInstr pair, popInstr pair)

/-- Settles O49: a POP gets the word that the PUSH stored, and a push between them leaves that word where it is. -/
theorem pushThenPopRestoresThePair : Obligations.PushThenPopRestoresThePair := by
  refine ⟨fun s push pop h hw => ?_, fun s hw => ?_⟩
  · replace h : (push, pop) ∈ pushPopForms := h
    rw [pushPopForms, List.mem_map] at h
    obtain ⟨pair, -, h⟩ := h
    cases h
    obtain ⟨t, p, q, hpush, hmem, hpop⟩ := exec_push_pop hw pair pair
    rw [State.setStackPair_stackPair] at hpop
    refine ⟨t, _, hpush, hpop, rfl, fun x h1 h2 => ?_, hmem.symm⟩
    exact (push16_memRead hw _ x).trans ((if_neg h2).trans (if_neg h1))
  · obtain ⟨p, q, hpushB⟩ := exec_pushInstr .bc s
    set t1 : State := { push16 (s.stackPair .bc) s with pc := p, stop := q } with ht1
    have hw1 : t1.MemoryCanonical := push16_wf hw _
    obtain ⟨t2, p', q', hpushD, -, hpopB⟩ := exec_push_pop hw1 .de .bc
    have hmove : t1.setStackPair .bc (t1.stackPair .de) = { t1 with b := s.d, c := s.e } :=
      setPair_bc_joinBytes t1 s.d s.e
    rw [hmove] at hpopB
    set t3 : State :=
      { t1 with b := s.d, c := s.e, mem := (push16 (t1.stackPair .de) t1).mem, pc := p', stop := q' } with ht3
    obtain ⟨p'', q'', hpopD⟩ := exec_popInstr .de t3
    have htop : stackTop t3 = joinBytes s.b s.c :=
      (stackTop_above_push16 (u := t3) hw1 rfl rfl).trans (stackTop_push16 hw (s.stackPair .bc))
    have hsp : s.sp - 2 + 2 = s.sp := sub_add_cancel s.sp 2
    rw [popPair_de_of_stackTop htop] at hpopD
    refine ⟨t1, t2, t3, _, hpushB, hpushD, hpopB, hpopD, ?_⟩
    simp only [ht1, ht3, dropTop, push16, State.memWrite, hsp]

end Sys2Proof.Machine
end

section
/-! PROOFS. Control transfer (`42_control_transfer.md`). -/

namespace Sys2Proof.Machine

/-- A conditional form, where it fits: taken, PC is the target and the rest is the effect `u` of the transfer; not
taken, PC and STOP advance by the length and nothing else changes (R251). -/
theorem exec_conditional {i : Instr} {s u : State} {x : Shape} {test : Cond} {taken : State → State × NextPc}
    {target : Word} (hx : shapeOf i = x) (hn : ∀ op, x ≠ .illegal op) (hf : s.Fits x.length)
    (hbody : x.body = whenCond test taken) (htaken : taken s = (u, .target target)) :
    ∃ v, exec i s = .next v ∧ (condHolds s.flags test = true → v = { u with pc := target }) ∧
      (condHolds s.flags test = false → v = { s with pc := v.pc, stop := v.stop } ∧ AdvancesBy x.length s v) := by
  cases hc : condHolds s.flags test with
  | true =>
    have hrule : x.body s = (u, .target target) := by rw [hbody, whenCond, if_pos hc, htaken]
    exact ⟨_, exec_of_target hx hn hf hrule, fun _ => rfl, nofun⟩
  | false =>
    have hrule : x.body s = (s, .seq) := by rw [hbody, whenCond, hc]; rfl
    obtain ⟨p, q, hexec, hadv⟩ := exec_advances_of_shape hx hn hf hrule
    exact ⟨_, hexec, nofun, fun _ => ⟨rfl, hadv⟩⟩

/-- An unconditional form is one whose condition always holds. -/
theorem exec_unconditional {i : Instr} {s u : State} {x : Shape} {target : Word} {P : State → Prop} (hx : shapeOf i = x)
    (hn : ∀ op, x ≠ .illegal op) (hf : s.Fits x.length) (hbody : x.body s = (u, .target target)) :
    ∃ v, exec i s = .next v ∧ (true = true → v = { u with pc := target }) ∧ (true = false → P v) :=
  ⟨_, exec_of_target hx hn hf hbody, fun _ => rfl, nofun⟩

/-- The eight conditions, in the order of their codes (R99). -/
def conds : List Cond := [.nz, .z, .nc, .c, .po, .pe, .p, .m]

/-- The ten jumps: bytes, instruction, test and target. It computes to the table of
`Obligations.JumpsTakeTheirTargetWhenTheFlagSays`. -/
def jumpForms (s : State) (lo hi : Byte) : List (List Byte × Instr × Bool × Word) :=
  [([0xC3, lo, hi], .jmp (hi ++ lo), true, hi ++ lo), ([0xE9], .pchl, true, s.h ++ s.l)] ++
  conds.map fun cond =>
    ([field3 0b11 cond.code 0b010, lo, hi], decode (field3 0b11 cond.code 0b010) lo hi, condHolds s.flags cond,
      hi ++ lo)

/-- Settles O41: JMP and PCHL always transfer, the conditional forms when their condition holds. -/
theorem jumpsTakeTheirTargetWhenTheFlagSays : Obligations.JumpsTakeTheirTargetWhenTheFlagSays := by
  intro s lo hi bytes i test target h hf
  replace h : (bytes, i, test, target) ∈ jumpForms s lo hi := h
  rw [jumpForms, List.mem_append, List.mem_map] at h
  rcases h with h | ⟨cond, -, h⟩
  · simp only [List.mem_cons, List.not_mem_nil, or_false] at h
    rcases h with h | h <;> cases h
    · exact ⟨encodes_three.mpr rfl, exec_unconditional (x := .jmp (hi ++ lo)) rfl nofun hf rfl⟩
    · exact ⟨encodes_one.mpr fun _ _ => rfl, exec_unconditional (x := .pchl) rfl nofun hf rfl⟩
  · cases h
    have hx := shapeOf_decode_jcc cond lo hi
    have henc := encodes_of_shape hx
    exact ⟨henc, exec_conditional hx nofun hf rfl rfl⟩

/-- The nine calls: bytes, instruction and test. It computes to the table of `Obligations.CallsPushTheReturnAddress`. -/
def callForms (s : State) (lo hi : Byte) : List (List Byte × Instr × Bool) :=
  ([0xCD, lo, hi], .call (hi ++ lo), true) ::
  conds.map fun cond =>
    ([field3 0b11 cond.code 0b100, lo, hi], decode (field3 0b11 cond.code 0b100) lo hi, condHolds s.flags cond)

/-- Each call is encoded by its bytes; taken, it pushes PC + 3 and goes to the address in its bytes. -/
theorem encodes_and_exec_of_mem_callForms {s : State} {lo hi : Byte} {bytes : List Byte} {i : Instr} {test : Bool}
    (h : (bytes, i, test) ∈ callForms s lo hi) (hf : s.Fits bytes.length) :
    Encodes bytes i ∧ ∃ v, exec i s = .next v ∧
      (test = true → v = { push16 (s.pc + 3) s with pc := hi ++ lo }) ∧
      (test = false → v = { s with pc := v.pc, stop := v.stop } ∧ AdvancesBy bytes.length s v) := by
  rw [callForms, List.mem_cons, List.mem_map] at h
  rcases h with h | ⟨cond, -, h⟩ <;> cases h
  · exact ⟨encodes_three.mpr rfl, exec_unconditional (x := .call (hi ++ lo)) rfl nofun hf rfl⟩
  · have hx := shapeOf_decode_ccc cond lo hi
    have henc := encodes_of_shape hx
    exact ⟨henc, exec_conditional hx nofun hf rfl rfl⟩

/-- Settles O42: a call that is taken stores PC + 3 below SP by `push16`. -/
theorem callsPushTheReturnAddress : Obligations.CallsPushTheReturnAddress := by
  intro s lo hi bytes i test h hf hw
  obtain ⟨henc, v, hexec, htaken, hnot⟩ := encodes_and_exec_of_mem_callForms (lo := lo) (hi := hi) h hf
  refine ⟨henc, v, hexec, fun ht => ?_, hnot⟩
  rw [htaken ht]
  exact ⟨rfl, push16_storesWord hw (s.pc + 3)⟩

/-- The nine returns: bytes, instruction and test. It computes to the table of `Obligations.ReturnsPopTheTarget`. -/
def returnForms (s : State) : List (List Byte × Instr × Bool) :=
  ([0xC9], .ret, true) ::
  conds.map fun cond =>
    ([field3 0b11 cond.code 0b000], decode (field3 0b11 cond.code 0b000) 0x00 0x00, condHolds s.flags cond)

/-- Settles O43: a return that is taken drops the word at the top of the stack and goes to it. -/
theorem returnsPopTheTarget : Obligations.ReturnsPopTheTarget := by
  intro s bytes i test h
  replace h : (bytes, i, test) ∈ returnForms s := h
  rw [returnForms, List.mem_cons, List.mem_map] at h
  rcases h with h | ⟨cond, -, h⟩ <;> cases h
  · exact ⟨encodes_one.mpr fun _ _ => rfl, exec_unconditional (x := .ret) rfl nofun s.fits_one rfl⟩
  · have hx := shapeOf_decode_rcc cond 0x00 0x00
    have henc := encodes_of_shape hx
    exact ⟨henc, exec_conditional hx nofun s.fits_one rfl rfl⟩

/-- The byte, the instruction and the number of each restart. It computes to the table of
`Obligations.RestartsCallEightTimesN`. -/
def restartForms : List (Byte × Instr × Nat) :=
  (List.range 8).map
    fun n => (field3 0b11 (BitVec.ofNat 3 n) 0b111, decode (field3 0b11 (BitVec.ofNat 3 n) 0b111) 0x00 0x00, n)

/-- Settles O44: a restart stores PC + 1 below SP by `push16` and goes to eight times its number. -/
theorem restartsCallEightTimesN : Obligations.RestartsCallEightTimesN := by
  intro s op i n h hw
  replace h : (op, i, n) ∈ restartForms := h
  rw [restartForms, List.mem_map] at h
  obtain ⟨k, hk, h⟩ := h
  rw [List.mem_range] at hk
  cases h
  have hx := shapeOf_decode_rst (BitVec.ofNat 3 n) 0x00 0x00
  have henc := encodes_of_shape hx
  have hexec := exec_of_target (s := s) hx nofun s.fits_one rfl
  refine ⟨henc, _, hexec, ?_, push16_storesWord hw (s.pc + 1), rfl⟩
  show (BitVec.ofNat 16 (8 * (BitVec.ofNat 3 n).toNat)).toNat = 8 * n
  rw [BitVec.toNat_ofNat, BitVec.toNat_ofNat]
  omega

/-- Settles O50: the return address that CALL stores is the word that RET drops. -/
theorem callThenReturnComesBack : Obligations.CallThenReturnComesBack := by
  intro s target hw hf
  have hcall := exec_of_target (i := .call target) rfl nofun hf rfl
  have htop : stackTop { push16 (s.pc + 3) s with pc := target } = s.pc + 3 := stackTop_push16 hw (s.pc + 3)
  have hrule : returnTop { push16 (s.pc + 3) s with pc := target } =
      ({ s with pc := target, mem := (push16 (s.pc + 3) s).mem }, .target (s.pc + 3)) :=
    Prod.ext (dropTop_push16 (s.pc + 3) s target s.stop) (congrArg NextPc.target htop)
  have hret := exec_of_target (i := .ret) rfl nofun (State.fits_one _) hrule
  exact ⟨_, _, hcall, rfl, hret, rfl, push16_storesWord hw (s.pc + 3)⟩

end Sys2Proof.Machine
end

section
/-! PROOFS. Machine control and I/O (`47_machine_io.md`). -/

namespace Sys2Proof.Machine

/-- Settles O51, by the rules of the three instructions. -/
theorem nopEiAndDiDoNoMoreThanTheySay : Obligations.NopEiAndDiDoNoMoreThanTheySay := by
  intro s
  refine ⟨⟨encodes_one.mpr fun _ _ => rfl, ?_⟩, ⟨encodes_one.mpr fun _ _ => rfl, ?_⟩,
    encodes_one.mpr fun _ _ => rfl, ?_⟩
  · exact exec_frame_of_shape (x := .nop) rfl nofun s.fits_one rfl
  · exact exec_frame_of_shape (x := .ei) rfl nofun s.fits_one rfl
  · exact exec_frame_of_shape (x := .di) rfl nofun s.fits_one rfl

/-- Settles O52, by the rules of the three instructions; HLT has one byte, which always fits. -/
theorem hltOutAndIn : Obligations.HltOutAndIn := by
  refine ⟨fun s => ⟨encodes_one.mpr fun _ _ => rfl, perform_of_fits s.fits_one fun s => (s, .halt)⟩,
    fun s p hf => ⟨encodes_two.mpr fun _ => rfl, exec_frame_of_shape (x := .out p) rfl nofun hf rfl⟩,
    fun s p hf => ⟨encodes_two.mpr fun _ => rfl, ?_⟩⟩
  obtain ⟨pc, stop, hexec⟩ := exec_of_shape (i := .inP8 p) rfl nofun hf rfl
  exact ⟨_, hexec, rfl, rfl, rfl⟩

end Sys2Proof.Machine
end
